-- ==== Sys2Proof/Word.lean ====
section
/-! DEFINITION. The words the part exchanges on its lines, and the fixed-length table that holds one
value for each slot, zone, trip line or window entry. -/

namespace Sys2Proof

/-- One byte of a link frame, a field-line frame or the stored image. -/
abbrev Byte := BitVec 8

/-- A 16-bit word: a notice flag set, a CRC-16. -/
abbrev Word16 := BitVec 16

/-- A 32-bit word: a CRC-32. -/
abbrev Word32 := BitVec 32

/-- A table of exactly `n` values, held as a list with the proof of its length, so that it is plain data
and every index below `n` has a value. -/
structure Table (n : Nat) (α : Type) where
  cells : List α
  size : cells.length = n
  deriving DecidableEq, Repr

namespace Table

variable {n : Nat} {α β : Type}

/-- The value at an index. -/
def get (t : Table n α) (i : Fin n) : α := t.cells[i.val]'(by rw [t.size]; exact i.isLt)

/-- The table with one value replaced. -/
def set (t : Table n α) (i : Fin n) (v : α) : Table n α := ⟨t.cells.set i.val v, by simp [t.size]⟩

/-- The table whose value at each index is given by a function. -/
def tabulate (f : Fin n → α) : Table n α := ⟨(List.finRange n).map f, by simp⟩

/-- The table that holds one value everywhere. -/
def fill (v : α) : Table n α := ⟨List.replicate n v, by simp⟩

/-- A function applied to every value. -/
def map (f : α → β) (t : Table n α) : Table n β := ⟨t.cells.map f, by simp [t.size]⟩

/-- The indices, in ascending order, whose value satisfies a test. -/
def indices (p : α → Bool) (t : Table n α) : List (Fin n) := (List.finRange n).filter fun i => p (t.get i)

/-- Two tables with the same value at every index are equal. -/
@[ext] theorem ext {s t : Table n α} (h : ∀ i, s.get i = t.get i) : s = t := by
  cases s with
  | mk a ha =>
    cases t with
    | mk b hb =>
      have : a = b := List.ext_getElem (by omega) fun k h1 h2 => h ⟨k, by omega⟩
      subst this
      rfl

@[simp] theorem get_set_self (t : Table n α) (i : Fin n) (v : α) : (t.set i v).get i = v := by
  simp [get, set]

theorem get_set (t : Table n α) (i j : Fin n) (v : α) :
    (t.set i v).get j = if j = i then v else t.get j := by
  simp only [get, set, List.getElem_set, Fin.ext_iff]
  by_cases h : i.val = j.val <;> simp [h, eq_comm]

@[simp] theorem get_set_ne (t : Table n α) {i j : Fin n} (v : α) (h : j ≠ i) :
    (t.set i v).get j = t.get j := by
  rw [get_set, if_neg h]

@[simp] theorem get_tabulate (f : Fin n → α) (i : Fin n) : (tabulate f).get i = f i := by
  simp [get, tabulate]

@[simp] theorem get_fill (v : α) (i : Fin n) : (fill v : Table n α).get i = v := by
  simp [get, fill]

@[simp] theorem get_map (f : α → β) (t : Table n α) (i : Fin n) : (t.map f).get i = f (t.get i) := by
  simp [get, map]

@[simp] theorem mem_indices (p : α → Bool) (t : Table n α) (i : Fin n) :
    i ∈ t.indices p ↔ p (t.get i) = true := by
  simp [indices]

end Table

end Sys2Proof
end

