-- ==== Sys2Proof/Config.lean ====
section
/-! DEFINITION. What is fixed for the part and never changes: how many slots, zones, trip lines and
window entries it has (00_scope.md section 5.3), and the one point on which two rules of its manual disagree
with nothing to settle it, as an opaque constant. -/

namespace Sys2Proof

/-- A slot, numbered 1 to 60 in the manual; index `i` is slot `i + 1`. -/
abbrev SlotIdx := Fin 60

/-- A zone number 1 to 10; index `k` is zone `k + 1`. -/
abbrev ZoneIdx := Fin 10

/-- A trip line 1 to 4; index `j` is line `j + 1`. -/
abbrev LineIdx := Fin 4

/-- A quiet window entry 1 to 8; index `w` is entry `w + 1`. -/
abbrev WindowIdx := Fin 8

/-- Every slot in ascending order. -/
def allSlots : List SlotIdx := List.finRange 60

/-- Every zone number in ascending order. -/
def allZones : List ZoneIdx := List.finRange 10

/-- Whether a locked or tripped slot that lacks readings is recorded as NOREADING, as R15 has it (with the
note to R95, and R39), or as LOCKED or TRIPPED, as the order of R58 has it. The spec settles it nowhere, so
the value is free: log entry 29. -/
opaque Config.noReadingFirst : Bool

@[simp] theorem mem_allSlots (i : SlotIdx) : i ∈ allSlots := List.mem_finRange i

@[simp] theorem mem_allZones (k : ZoneIdx) : k ∈ allZones := List.mem_finRange k

end Sys2Proof
end

