-- ==== Sys2Proof/Syntax.lean ====
section
/-! DEFINITION. The commands: one constructor of `Instr` per row of spec/opcode_table.json.

A request of a master carries the link it came on and the payload bytes of its frame, so that every
check of R149 (length, authority, numbers) and every clamp is the machine's own. An event carries what
the outside of the part brings: a frame's bytes, an input's new condition, the slot or line concerned,
or the bytes read back from the non-volatile storage. -/

namespace Sys2Proof

/-- The three master links (00_scope.md section 3). -/
inductive Link where
  | station
  | safety
  | crew
  deriving DecidableEq, Repr

/-- The payload bytes of a request frame, after the command code and before the CRC. -/
abbrev Payload := List Byte

/-- The commands a request frame can name (section 10.2); the code of each is `Machine.codeOf`. -/
inductive Command where
  | readStatus
  | readSlot
  | readZone
  | readRoundSummary
  | readLimits
  | readResults
  | readWindows
  | readNotices
  | clearNotices
  | setNoticeMask
  | editPlanParameters
  | setZoneCount
  | editZone
  | editSlotEntry
  | adoptPlan
  | discardPending
  | setCapacity
  | setRoundMode
  | runRound
  | setClock
  | setWindow
  | storePlan
  | setLimits
  | lockSlot
  | unlockSlot
  | lockZone
  | unlockZone
  | hold
  | release
  | shutIn
  | releaseShutIn
  | reArm
  | disarm
  | abortProcedure
  | commissionSlot
  | retireSlot
  | reclaimSlot
  | setManual
  | clearManual
  | clearValveFault
  | beginTest
  | addTestSlot
  | suspendTest
  | resumeTest
  | beginPurge
  deriving DecidableEq, Repr

/-- The block's commands, in the order of spec/opcode_table.json. -/
inductive Instr where
  /-- RESET: power-on or assertion of the reset line. -/
  | reset
  /-- READ_STATUS taken on a link, with its payload. -/
  | readStatus (l : Link) (p : Payload)
  /-- READ_SLOT taken on a link, with its payload. -/
  | readSlot (l : Link) (p : Payload)
  /-- READ_ZONE taken on a link, with its payload. -/
  | readZone (l : Link) (p : Payload)
  /-- READ_ROUND_SUMMARY taken on a link, with its payload. -/
  | readRoundSummary (l : Link) (p : Payload)
  /-- READ_LIMITS taken on a link, with its payload. -/
  | readLimits (l : Link) (p : Payload)
  /-- READ_RESULTS taken on a link, with its payload. -/
  | readResults (l : Link) (p : Payload)
  /-- READ_WINDOWS taken on a link, with its payload. -/
  | readWindows (l : Link) (p : Payload)
  /-- READ_NOTICES taken on a link, with its payload. -/
  | readNotices (l : Link) (p : Payload)
  /-- CLEAR_NOTICES taken on a link, with its payload. -/
  | clearNotices (l : Link) (p : Payload)
  /-- SET_NOTICE_MASK taken on a link, with its payload. -/
  | setNoticeMask (l : Link) (p : Payload)
  /-- EDIT_PLAN_PARAMETERS taken on a link, with its payload. -/
  | editPlanParameters (l : Link) (p : Payload)
  /-- SET_ZONE_COUNT taken on a link, with its payload. -/
  | setZoneCount (l : Link) (p : Payload)
  /-- EDIT_ZONE taken on a link, with its payload. -/
  | editZone (l : Link) (p : Payload)
  /-- EDIT_SLOT_ENTRY taken on a link, with its payload. -/
  | editSlotEntry (l : Link) (p : Payload)
  /-- ADOPT_PLAN taken on a link, with its payload. -/
  | adoptPlan (l : Link) (p : Payload)
  /-- DISCARD_PENDING taken on a link, with its payload. -/
  | discardPending (l : Link) (p : Payload)
  /-- SET_CAPACITY taken on a link, with its payload. -/
  | setCapacity (l : Link) (p : Payload)
  /-- SET_ROUND_MODE taken on a link, with its payload. -/
  | setRoundMode (l : Link) (p : Payload)
  /-- RUN_ROUND taken on a link, with its payload. -/
  | runRound (l : Link) (p : Payload)
  /-- SET_CLOCK taken on a link, with its payload. -/
  | setClock (l : Link) (p : Payload)
  /-- SET_WINDOW taken on a link, with its payload. -/
  | setWindow (l : Link) (p : Payload)
  /-- STORE_PLAN taken on a link, with its payload. -/
  | storePlan (l : Link) (p : Payload)
  /-- SET_LIMITS taken on a link, with its payload. -/
  | setLimits (l : Link) (p : Payload)
  /-- LOCK_SLOT taken on a link, with its payload. -/
  | lockSlot (l : Link) (p : Payload)
  /-- UNLOCK_SLOT taken on a link, with its payload. -/
  | unlockSlot (l : Link) (p : Payload)
  /-- LOCK_ZONE taken on a link, with its payload. -/
  | lockZone (l : Link) (p : Payload)
  /-- UNLOCK_ZONE taken on a link, with its payload. -/
  | unlockZone (l : Link) (p : Payload)
  /-- HOLD taken on a link, with its payload. -/
  | hold (l : Link) (p : Payload)
  /-- RELEASE taken on a link, with its payload. -/
  | release (l : Link) (p : Payload)
  /-- SHUT_IN taken on a link, with its payload. -/
  | shutIn (l : Link) (p : Payload)
  /-- RELEASE_SHUT_IN taken on a link, with its payload. -/
  | releaseShutIn (l : Link) (p : Payload)
  /-- RE_ARM taken on a link, with its payload. -/
  | reArm (l : Link) (p : Payload)
  /-- DISARM taken on a link, with its payload. -/
  | disarm (l : Link) (p : Payload)
  /-- ABORT_PROCEDURE taken on a link, with its payload. -/
  | abortProcedure (l : Link) (p : Payload)
  /-- COMMISSION_SLOT taken on a link, with its payload. -/
  | commissionSlot (l : Link) (p : Payload)
  /-- RETIRE_SLOT taken on a link, with its payload. -/
  | retireSlot (l : Link) (p : Payload)
  /-- RECLAIM_SLOT taken on a link, with its payload. -/
  | reclaimSlot (l : Link) (p : Payload)
  /-- SET_MANUAL taken on a link, with its payload. -/
  | setManual (l : Link) (p : Payload)
  /-- CLEAR_MANUAL taken on a link, with its payload. -/
  | clearManual (l : Link) (p : Payload)
  /-- CLEAR_VALVE_FAULT taken on a link, with its payload. -/
  | clearValveFault (l : Link) (p : Payload)
  /-- BEGIN_TEST taken on a link, with its payload. -/
  | beginTest (l : Link) (p : Payload)
  /-- ADD_TEST_SLOT taken on a link, with its payload. -/
  | addTestSlot (l : Link) (p : Payload)
  /-- SUSPEND_TEST taken on a link, with its payload. -/
  | suspendTest (l : Link) (p : Payload)
  /-- RESUME_TEST taken on a link, with its payload. -/
  | resumeTest (l : Link) (p : Payload)
  /-- BEGIN_PURGE taken on a link, with its payload. -/
  | beginPurge (l : Link) (p : Payload)
  /-- UNKNOWN_COMMAND: a request taken on a link whose code names no command. -/
  | unknownCommand (l : Link) (code : Byte) (p : Payload)
  /-- FRAME_CRC_DISCARD: a complete frame (its length, code and payload, and the CRC it carries). -/
  | frameCrcDiscard (l : Link) (body : List Byte) (crc : Word16)
  /-- FRAME_LENGTH_DISCARD: a length byte of 0 or above 250 after the sync byte. -/
  | frameLengthDiscard (l : Link) (len : Byte)
  /-- INTER_BYTE_GAP_TIMEOUT: more than 50 ms without a byte. -/
  | interByteGapTimeout (l : Link)
  /-- FRAME_DURING_REPLY: a complete frame (its length, code and payload, and the CRC it carries) whose
  sync byte came before the reply in progress had been sent. -/
  | frameDuringReply (l : Link) (body : List Byte) (crc : Word16)
  /-- REPLY_SENT: the last byte of the link's reply leaves the part. -/
  | replySent (l : Link)
  /-- FIELD_REPLY_TAKEN: the bytes of a reply to the outstanding poll. -/
  | fieldReplyTaken (frame : List Byte)
  /-- FIELD_REPLY_REJECTED: the bytes of a reply to the outstanding poll. -/
  | fieldReplyRejected (frame : List Byte)
  /-- POLL_TIMEOUT: 250 ms without a complete reply. -/
  | pollTimeout
  /-- STRAY_FIELD_BYTES: bytes on the field line while no poll is outstanding. -/
  | strayFieldBytes (bytes : List Byte)
  /-- ROUND_TIMER_EXPIRY. -/
  | roundTimerExpiry
  /-- REQUESTED_ROUND: the Round Controller takes one round request. -/
  | requestedRound
  /-- GAS_BAND_REQUEST: the Round Controller takes one gas-band request. -/
  | gasBandRequest
  /-- TRAVEL_TIMEOUT of a slot's move. -/
  | travelTimeout (i : SlotIdx)
  /-- MANIFOLD_WATCH_EXPIRY. -/
  | manifoldWatchExpiry
  /-- KEY_INPUT_CHANGE: the condition the key switch now has. -/
  | keyInputChange (closed : Bool)
  /-- KEY_DEBOUNCE_EXPIRY: the key input has held its condition for 500 ms. -/
  | keyDebounceExpiry
  /-- TRIP_CONTACT_CHANGE: the condition a trip contact now has. -/
  | tripContactChange (j : LineIdx) (closed : Bool)
  /-- TRIP_DEBOUNCE_EXPIRY: a trip contact has held its condition for 500 ms. -/
  | tripDebounceExpiry (j : LineIdx)
  /-- DRAINAGE_CLOCK_ADVANCE: one second of the elapsed-seconds count. -/
  | drainageClockAdvance
  /-- MINUTE_ROLLOVER. -/
  | minuteRollover
  /-- GATHERING_WINDOW_EXPIRY. -/
  | gatheringWindowExpiry
  /-- MEASURING_EXPIRY. -/
  | measuringExpiry
  /-- PURGE_EXPIRY. -/
  | purgeExpiry
  /-- STORE_WRITE_END: the bytes the Plan Store reads back from the non-volatile storage. -/
  | storeWriteEnd (readBack : List Byte)
  /-- LINK_BYTE_RECEIVED: one byte at a link receiver. -/
  | linkByteReceived (l : Link) (b : Byte)
  deriving DecidableEq, Repr

end Sys2Proof
end

