-- ==== Sys2Proof/Machine/State.lean ====
section
/-! DEFINITION. The state of the part, block by block as section 4 of 00_scope.md divides it, the two
types of stops, and the state right after reset. All of it is plain data. -/

namespace Sys2Proof.Machine

/-! ## The Plan Table (01_the_borehole_plan.md) -/

/-- A zone's stepping count (R6). -/
inductive Stepping where
  | one
  | two
  | four
  | all
  deriving DecidableEq, Repr

/-- A zone record (R5, R6). No trip line is `none`. -/
structure ZoneRecord where
  lastSlot : Nat
  ramp : Nat
  stepping : Stepping
  tripLine : Option LineIdx
  deriving DecidableEq, Repr

/-- A slot plan entry (R7, R8). A tag of length 0 is an absent tag. -/
structure SlotEntry where
  priority : Nat
  uMax : Nat
  uMin : Nat
  tag : List Byte
  staleOverride : Option Nat
  deriving DecidableEq, Repr

/-- A complete plan (R1): Z, S and T of R3, ten zone records and sixty slot plan entries. -/
structure Plan where
  zoneCount : Nat
  staleLimit : Nat
  travelTimeout : Nat
  zones : Table 10 ZoneRecord
  entries : Table 60 SlotEntry
  deriving DecidableEq, Repr

/-- The adoption state (R2). -/
inductive Adoption where
  | editable
  | adopting
  deriving DecidableEq, Repr

/-- A slot's lifecycle (R14). -/
inductive Lifecycle where
  | vacant
  | active
  | retiring
  | retired
  deriving DecidableEq, Repr

/-- A slot's mode (R14); the manual setpoint is present in MANUAL only. -/
inductive Mode where
  | auto
  | manual (setpoint : Nat)
  deriving DecidableEq, Repr

/-- A slot's roster record (R14). The yield estimate and the commission time are present while the slot
is ACTIVE or RETIRING. -/
structure Roster where
  lifecycle : Lifecycle
  mode : Mode
  yieldEst : Option Nat
  commissioned : Option Nat
  deriving DecidableEq, Repr

/-- The Plan Table: both plans, the adoption state and the slot roster. -/
structure PlanTable where
  pendingPlan : Plan
  active : Plan
  adoption : Adoption
  roster : Table 60 Roster
  deriving DecidableEq, Repr

/-! ## The Field Scanner (02_field_line_and_borehole_readings.md) -/

/-- The head a poll is addressed to: the manifold head at address 0, or the head of a slot. -/
inductive HeadAddr where
  | manifold
  | slot (i : SlotIdx)
  deriving DecidableEq, Repr

/-- A poll (R24). -/
structure Poll where
  head : HeadAddr
  commanded : Nat
  drainOpen : Bool
  deriving DecidableEq, Repr

/-- A head state (R26). -/
inductive HeadState where
  | responding
  | silent
  deriving DecidableEq, Repr

/-- A head's state with its miss count 0..3 (R26). -/
structure Head where
  state : HeadState
  misses : Nat
  deriving DecidableEq, Repr

/-- A last good value with the elapsed-seconds count at which its reply was taken (R29). -/
structure Stamped where
  value : Nat
  time : Nat
  deriving DecidableEq, Repr

/-- The four fault flags of a reply (R25). -/
structure FaultFlags where
  methane : Bool
  oxygen : Bool
  flow : Bool
  valve : Bool
  deriving DecidableEq, Repr

/-- A slot's reading record (R29). -/
structure ReadingRecord where
  methane : Option Stamped
  oxygen : Option Stamped
  flow : Option Stamped
  pressure : Option Stamped
  position : Option Stamped
  drainOpen : Option Bool
  faults : Option FaultFlags
  deriving DecidableEq, Repr

/-- The manifold's reading record (R36). -/
structure ManifoldRecord where
  methane : Option Stamped
  oxygen : Option Stamped
  flow : Option Stamped
  pressure : Option Stamped
  faults : Option FaultFlags
  deriving DecidableEq, Repr

/-- The Field Scanner: the outstanding poll (R22), what is left of the cycle's poll list (R23), the head
states (R26) and the reading records (R29, R36). A head state and a reading record exist for a slot in
the Scanner's care only (R27, R33). -/
structure Scanner where
  poll : Option Poll
  remaining : List HeadAddr
  heads : Table 60 (Option Head)
  records : Table 60 (Option ReadingRecord)
  manifoldHead : Head
  manifold : ManifoldRecord
  deriving DecidableEq, Repr

/-! ## The Round Controller (03_allocation_rounds.md) -/

/-- The round mode (R40). -/
inductive RoundMode where
  | cycling
  | stepped
  deriving DecidableEq, Repr

/-- The shut-in cause (R40). -/
inductive ShutCause where
  | commanded
  | gasBand
  deriving DecidableEq, Repr

/-- The allocator state (R40); the cause is present in SHUT-IN only. -/
inductive Allocator where
  | startup
  | running
  | held
  | shutIn (cause : ShutCause)
  deriving DecidableEq, Repr

/-- The reasons for which a slot stands CLOSED, in the order in which they are tested (R58). -/
inductive ClosedReason where
  | retiring
  | locked
  | tripped
  | inTest
  | noReading
  | stale
  deriving DecidableEq, Repr

/-- A slot's standing in a round (R56). -/
inductive Standing where
  | absent
  | fixed
  | closed (reason : ClosedReason)
  | ranked
  deriving DecidableEq, Repr

/-- A slot's entry in the allocation record (R67). The grant and the position in the capacity order,
counted from 1, are present for a RANKED slot. -/
structure AllocEntry where
  standing : Standing
  target : Nat
  flow : Nat
  grant : Option Nat
  place : Option Nat
  deriving DecidableEq, Repr

/-- The allocation record (R67). `serial` is the number of rounds computed since reset when it was made,
of which the round number is the low 32 bits. -/
structure AllocRecord where
  serial : Nat
  capacity : Nat
  floor : Nat
  ceiling : Nat
  sumF : Nat
  sumM : Nat
  sumX : Nat
  order : List SlotIdx
  entries : Table 60 (Option AllocEntry)
  deriving DecidableEq, Repr

/-- The Round Controller (R40). `computed` counts the allocations computed since reset without wrapping;
the round number is its low 32 bits. `requests` and `gasBandRequests` are the requests sent to the
controller that it has not yet taken (R46, R53). `requestsAhead` is how many of the waiting requests are
taken before a round event of any other kind, since Set Capacity sent them (R47). -/
structure Rounds where
  mode : RoundMode
  period : Nat
  nextExpiry : Option Nat
  allocator : Allocator
  missed : Bool
  computed : Nat
  record : Option AllocRecord
  capacity : Nat
  staleMarks : Table 60 Bool
  requests : Nat
  requestsAhead : Nat
  gasBandRequests : Nat
  deriving DecidableEq, Repr

/-! ## The Valve Motion Controller (04_valve_motion.md) -/

/-- A valve state (R70); the move start time is present while MOVING. -/
inductive ValveState where
  | atRest
  | moving (start : Nat)
  | stuck
  deriving DecidableEq, Repr

/-- A valve record (R70). -/
structure Valve where
  target : Nat
  commanded : Nat
  reported : Option Nat
  state : ValveState
  deriving DecidableEq, Repr

/-- The class of a queue entry (R72); an opening entry holds the round that made it, by its serial
count, and the slot's place in that round's capacity order. -/
inductive EntryKind where
  | closing
  | opening (round : Nat) (place : Nat)
  deriving DecidableEq, Repr

/-- A motion queue entry (R72). -/
structure QueueEntry where
  slot : SlotIdx
  kind : EntryKind
  position : Nat
  deriving DecidableEq, Repr

/-- The Valve Motion Controller: a valve record per slot and a motion queue per zone, head first. -/
structure Motion where
  valves : Table 60 Valve
  queues : Table 10 (List QueueEntry)
  deriving DecidableEq, Repr

/-! ## The Gas Limit Monitor (05_gas_limits_and_locks.md) -/

/-- The cause of a raised mix alarm (R90). -/
inductive AlarmCause where
  | readings
  | noManifold
  deriving DecidableEq, Repr

/-- The mix alarm state (R90); the cause is present while RAISED. -/
inductive Alarm where
  | clear
  | raised (cause : AlarmCause)
  deriving DecidableEq, Repr

/-- The manifold watch (R104). -/
inductive Watch where
  | armed
  | spent
  deriving DecidableEq, Repr

/-- The six limits of Set Limits (R90, R92). -/
structure Limits where
  cFloor : Nat
  oCeil : Nat
  aFloor : Nat
  aO2 : Nat
  margin : Nat
  alarmCount : Nat
  deriving DecidableEq, Repr

/-- The Gas Limit Monitor (R90). `keySwitchClosed` is the key switch input as it stands, `keyActive` the
override key line after its debounce (R108); the debounce runs while the two differ. -/
structure GasMonitor where
  limits : Limits
  alarm : Alarm
  outCount : Nat
  inCount : Nat
  watchRef : Nat
  watch : Watch
  bandCount : Nat
  slotLocks : Table 60 Bool
  zoneLocks : Table 10 Bool
  keySwitchClosed : Bool
  keyActive : Bool
  deriving DecidableEq, Repr

/-! ## The Trip and Window Unit (06_trip_lines_and_quiet_windows.md) -/

/-- A trip line state (R111). -/
inductive LineState where
  | armed
  | latched
  | disarmed
  deriving DecidableEq, Repr

/-- A trip line: its state, its contact as it stands, and its debounced input (R111, R112). The debounce
runs while the contact and the debounced input differ. -/
structure TripLine where
  state : LineState
  contactClosed : Bool
  inputActive : Bool
  deriving DecidableEq, Repr

/-- The drainage clock (R117). -/
structure Clock where
  weekday : Nat
  hour : Nat
  minute : Nat
  second : Nat
  deriving DecidableEq, Repr

/-- A quiet window entry (R119). ANY is `none`; bit `k` of the zone set stands for zone `k + 1`. -/
structure WindowEntry where
  enabled : Bool
  weekday : Option Nat
  hour : Option Nat
  minute : Nat
  duration : Nat
  zones : BitVec 10
  ceiling : Nat
  deriving DecidableEq, Repr

/-- A quiet window entry with the remaining minutes of its active occurrence, if it has one (R119). -/
structure Window where
  entry : WindowEntry
  remaining : Option Nat
  deriving DecidableEq, Repr

/-- The Trip and Window Unit. `rolloversDue` holds the clock values of minute rollovers reached and not
yet taken through the window table, oldest first (R117, R118, R121). -/
structure TripUnit where
  lines : Table 4 TripLine
  clock : Clock
  unset : Bool
  windows : Table 8 Window
  ceilings : Table 10 (Option Nat)
  rolloversDue : List Clock
  deriving DecidableEq, Repr

/-! ## The Procedure Controller (07_borehole_procedures.md) -/

/-- The procedure state (R125), in the order of the manual. -/
inductive ProcState where
  | idle
  | gathering
  | settling
  | measuring
  | suspended
  | suspendedPurging
  | purging
  deriving DecidableEq, Repr

/-- A place of the test set (R125). -/
structure TestPlace where
  slot : SlotIdx
  sealedMark : Bool
  startPressure : Option Nat
  deriving DecidableEq, Repr

/-- The outcome of a result record (R141). -/
inductive TestOutcome where
  | complete
  | noSeal
  | noReading
  | aborted
  deriving DecidableEq, Repr

/-- A result record (R141). -/
structure ResultRecord where
  slot : SlotIdx
  outcome : TestOutcome
  startPressure : Option Nat
  endPressure : Option Nat
  seconds : Nat
  riseRate : Option Int
  deriving DecidableEq, Repr

/-- The Procedure Controller (R125). -/
structure Procedure where
  state : ProcState
  testSet : List TestPlace
  duration : Option Nat
  gatherExpiry : Option Nat
  measureStart : Option Nat
  measureExpiry : Option Nat
  purgeSlot : Option SlotIdx
  purgeExpiry : Option Nat
  errorFlag : Bool
  results : List ResultRecord
  deriving DecidableEq, Repr

/-! ## The Plan Store (09_plan_store_and_start_up.md) -/

/-- The contents of an image (R162) before they are encoded. -/
structure Image where
  plan : Plan
  slots : Table 60 (Lifecycle × Option Nat)
  mode : RoundMode
  period : Nat
  windows : Table 8 WindowEntry
  deriving DecidableEq, Repr

/-- The stored image in non-volatile storage (R160): its encoded contents, the four bytes of the CRC-32 it
carries, low byte first (R169), and its mark. -/
structure StoredImage where
  contents : List Byte
  crcBytes : List Byte
  markedValid : Bool
  deriving DecidableEq, Repr

/-- The store state (R160); the captured image, its CRC-32 and the write end are present while WRITING. -/
inductive StoreState where
  | idle
  | writing (captured : Image) (crc : Word32) (writeEnd : Nat)
  deriving DecidableEq, Repr

/-- The Plan Store (R160). -/
structure Store where
  stored : StoredImage
  state : StoreState
  deriving DecidableEq, Repr

/-! ## The Link Controller (08_master_links.md) -/

/-- The result codes of replies (R150). -/
inductive Result where
  | ok
  | clamped
  | unknownCommand
  | badLength
  | notPermitted
  | badValue
  | adoptPending
  | planInvalid
  | slotState
  | allocState
  | storeBusy
  | procBusy
  | notGathering
  | notRunning
  | notSuspended
  | setFull
  | slotUnfit
  | slotInProcedure
  | slotInTest
  | keyRequired
  | valveFault
  | valveState
  | lineActive
  deriving DecidableEq, Repr

/-- A reply: the command code it answers, its result and its data (R148, R150). -/
structure Reply where
  code : Byte
  result : Result
  data : List Byte
  deriving DecidableEq, Repr

/-- A link's receiver (R144). While ASSEMBLING it holds the bytes received after the sync byte; `late`
marks a frame whose sync byte arrived while a request was in progress (R148). -/
inductive Receiver where
  | hunting
  | assembling (late : Bool) (bytes : List Byte)
  deriving DecidableEq, Repr

/-- One link's state (R144). The request in progress is held as the reply that answers it. `sent` holds
the bytes of the last whole reply the part has sent on the link. -/
structure LinkState where
  receiver : Receiver
  request : Option Reply
  sent : List Byte
  notices : Word16
  mask : Word16
  attention : Bool
  deriving DecidableEq, Repr

/-- The three links. -/
structure Links where
  station : LinkState
  safety : LinkState
  crew : LinkState
  deriving DecidableEq, Repr

/-! ## The whole part -/

/-- The part, with the queue of commands waiting to be taken. -/
structure State where
  elapsed : Nat
  links : Links
  plan : PlanTable
  scanner : Scanner
  rounds : Rounds
  motion : Motion
  gas : GasMonitor
  trips : TripUnit
  proc : Procedure
  store : Store
  pending : List Instr
  deriving DecidableEq, Repr

/-- No command of this block stops the part: the manual gives every request a reply and every event an
effect, so there is no fault. -/
inductive Fault where
  deriving DecidableEq, Repr

/-- A command to which the model gives no meaning. -/
inductive Refusal where
  /-- Raised by `exec` for a command that has no meaning yet; no arm raises it. Safe: nothing is claimed
  of a run that stops here. -/
  | notModelled (mnemonic : String)
  deriving DecidableEq, Repr

/-! ## Reset -/

/-- A zone record at its defaults (R6, R19) with a given last slot. -/
def defaultZone (lastSlot : Nat) : ZoneRecord :=
  { lastSlot := lastSlot, ramp := 10, stepping := .one, tripLine := none }

/-- A slot plan entry at its defaults (R7, R19). -/
def defaultEntry : SlotEntry :=
  { priority := 1, uMax := 100, uMin := 10, tag := [], staleOverride := none }

/-- The plan taken when no valid image is stored (R19): the stored last slots are 6, 12, …, 54 and 60. -/
def defaultPlan : Plan :=
  { zoneCount := 1
    staleLimit := 120
    travelTimeout := 45
    zones := Table.tabulate fun k => defaultZone (6 * (k.val + 1))
    entries := Table.fill defaultEntry }

/-- The roster record of a VACANT slot (R20). -/
def vacantRoster : Roster :=
  { lifecycle := .vacant, mode := .auto, yieldEst := none, commissioned := none }

/-- A valve record at rest at 0 with no reported position (R15, R70). -/
def restedValve : Valve := { target := 0, commanded := 0, reported := none, state := .atRest }

/-- A head that has just entered the Scanner's care (R27). -/
def freshHead : Head := { state := .responding, misses := 0 }

/-- The manifold's reading record with every entry absent (R39). -/
def emptyManifold : ManifoldRecord :=
  { methane := none, oxygen := none, flow := none, pressure := none, faults := none }

/-- The limits after reset (R90). -/
def defaultLimits : Limits :=
  { cFloor := 300, oCeil := 30, aFloor := 250, aO2 := 40, margin := 50, alarmCount := 3 }

/-- A quiet window entry at its defaults (R119), with no active occurrence. -/
def defaultWindow : Window :=
  { entry :=
      { enabled := false, weekday := none, hour := none, minute := 0, duration := 1, zones := 0,
        ceiling := 100 }
    remaining := none }

/-- The Procedure Controller after reset (R125). -/
def idleProcedure : Procedure :=
  { state := .idle, testSet := [], duration := none, gatherExpiry := none, measureStart := none,
    measureExpiry := none, purgeSlot := none, purgeExpiry := none, errorFlag := false, results := [] }

/-- A link after a reset whose load of the stored image failed (R144): {Restarted, PlanLost} set, the
default mask {Restarted, PlanLost, MixAlarm, ShutIn, TripLatched, ValveFault}, the line active. -/
def linkAfterLostPlan : LinkState :=
  { receiver := .hunting, request := none, sent := [], notices := 0x0003#16, mask := 0x01D3#16,
    attention := true }

/-- The part right after power-on with no image ever stored, every contact and the key switch open
(DESIGN CHOICE, log entry 1), so that the load fails and every default is taken (R165). The first poll,
to the manifold head, has been sent (log entry 2). -/
def State.reset : State :=
  { elapsed := 0
    links := { station := linkAfterLostPlan, safety := linkAfterLostPlan, crew := linkAfterLostPlan }
    plan :=
      { pendingPlan := defaultPlan, active := defaultPlan, adoption := .editable,
        roster := Table.fill vacantRoster }
    scanner :=
      { poll := some { head := .manifold, commanded := 0, drainOpen := false }
        remaining := []
        heads := Table.fill none
        records := Table.fill none
        manifoldHead := freshHead
        manifold := emptyManifold }
    rounds :=
      { mode := .cycling, period := 30, nextExpiry := some 30, allocator := .startup, missed := false,
        computed := 0, record := none, capacity := 0, staleMarks := Table.fill false, requests := 0,
        requestsAhead := 0, gasBandRequests := 0 }
    motion := { valves := Table.fill restedValve, queues := Table.fill [] }
    gas :=
      { limits := defaultLimits, alarm := .clear, outCount := 0, inCount := 0, watchRef := 0,
        watch := .armed, bandCount := 0, slotLocks := Table.fill false, zoneLocks := Table.fill false,
        keySwitchClosed := false, keyActive := false }
    trips :=
      { lines := Table.fill { state := .armed, contactClosed := false, inputActive := false }
        clock := { weekday := 1, hour := 0, minute := 0, second := 0 }
        unset := true
        windows := Table.fill defaultWindow
        ceilings := Table.fill none
        rolloversDue := [] }
    proc := idleProcedure
    store :=
      { stored := { contents := [], crcBytes := [0#8, 0#8, 0#8, 0#8], markedValid := false }, state := .idle }
    pending := [] }

end Sys2Proof.Machine
end

