-- ==== Sys2Proof/Machine/Frames.lean ====
section
/-! DEFINITION. Check codes, command codes, result bytes and the frames of the links and of the field
line (10_frame_and_record_layouts.md, sections 10.1 to 10.3 and 10.7). -/

namespace Sys2Proof.Machine

/-! ## Little-endian numbers (section 5.5) -/

/-- A number as one byte. -/
def byteOf (n : Nat) : Byte := BitVec.ofNat 8 n

/-- A number in `k` bytes, low byte first. -/
def leBytes : Nat → Nat → List Byte
  | 0, _ => []
  | k + 1, n => byteOf n :: leBytes k (n / 256)

/-- A value that may be absent, in `k` bytes: absent is all bits set (R167). -/
def leOpt (k : Nat) : Option Nat → List Byte
  | some n => leBytes k n
  | none => List.replicate k 0xFF#8

/-- The number that bytes spell, low byte first. -/
def leNat : List Byte → Nat
  | [] => 0
  | b :: bs => b.toNat + 256 * leNat bs

/-- A flag as one byte. -/
def flagByte (b : Bool) : Byte := if b then 1#8 else 0#8

/-! ## Check codes (R169) -/

/-- One bit of the CRC-16, most significant bit first. -/
def crc16Bit (crc : Word16) : Word16 :=
  if crc.msb then (crc <<< 1) ^^^ 0x1021#16 else crc <<< 1

/-- One byte of the CRC-16. -/
def crc16Byte (crc : Word16) (b : Byte) : Word16 :=
  Nat.iterate crc16Bit 8 (crc ^^^ (b.zeroExtend 16 <<< 8))

/-- The CRC-16 of link and field frames: polynomial 1021h from FFFFh, no reflection, no inversion. -/
def crc16 (bytes : List Byte) : Word16 := bytes.foldl crc16Byte 0xFFFF#16

/-- One bit of the CRC-32, reflected: 04C11DB7h bit-reversed is EDB88320h. -/
def crc32Bit (crc : Word32) : Word32 :=
  if crc.getLsbD 0 then (crc >>> 1) ^^^ 0xEDB88320#32 else crc >>> 1

/-- One byte of the CRC-32. -/
def crc32Byte (crc : Word32) (b : Byte) : Word32 :=
  Nat.iterate crc32Bit 8 (crc ^^^ b.zeroExtend 32)

/-- The CRC-32 of the stored image: polynomial 04C11DB7h from FFFFFFFFh, reflected, inverted. -/
def crc32 (bytes : List Byte) : Word32 := ~~~(bytes.foldl crc32Byte 0xFFFFFFFF#32)

/-! ## Command codes and result bytes (sections 10.1 and 10.2) -/

/-- The code of each command. -/
def codeOf : Command → Byte
  | .readStatus => 0x01#8
  | .readSlot => 0x02#8
  | .readZone => 0x03#8
  | .readRoundSummary => 0x04#8
  | .readLimits => 0x05#8
  | .readResults => 0x06#8
  | .readWindows => 0x07#8
  | .readNotices => 0x08#8
  | .clearNotices => 0x09#8
  | .setNoticeMask => 0x0A#8
  | .editPlanParameters => 0x10#8
  | .setZoneCount => 0x11#8
  | .editZone => 0x12#8
  | .editSlotEntry => 0x13#8
  | .adoptPlan => 0x14#8
  | .discardPending => 0x15#8
  | .setCapacity => 0x16#8
  | .setRoundMode => 0x17#8
  | .runRound => 0x18#8
  | .setClock => 0x19#8
  | .setWindow => 0x1A#8
  | .storePlan => 0x1B#8
  | .setLimits => 0x20#8
  | .lockSlot => 0x21#8
  | .unlockSlot => 0x22#8
  | .lockZone => 0x23#8
  | .unlockZone => 0x24#8
  | .hold => 0x25#8
  | .release => 0x26#8
  | .shutIn => 0x27#8
  | .releaseShutIn => 0x28#8
  | .reArm => 0x29#8
  | .disarm => 0x2A#8
  | .abortProcedure => 0x2B#8
  | .commissionSlot => 0x30#8
  | .retireSlot => 0x31#8
  | .reclaimSlot => 0x32#8
  | .setManual => 0x33#8
  | .clearManual => 0x34#8
  | .clearValveFault => 0x35#8
  | .beginTest => 0x36#8
  | .addTestSlot => 0x37#8
  | .suspendTest => 0x38#8
  | .resumeTest => 0x39#8
  | .beginPurge => 0x3A#8

/-- Every command. -/
def allCommands : List Command :=
  [.readStatus, .readSlot, .readZone, .readRoundSummary, .readLimits, .readResults, .readWindows,
   .readNotices, .clearNotices, .setNoticeMask, .editPlanParameters, .setZoneCount, .editZone,
   .editSlotEntry, .adoptPlan, .discardPending, .setCapacity, .setRoundMode, .runRound, .setClock,
   .setWindow, .storePlan, .setLimits, .lockSlot, .unlockSlot, .lockZone, .unlockZone, .hold, .release,
   .shutIn, .releaseShutIn, .reArm, .disarm, .abortProcedure, .commissionSlot, .retireSlot,
   .reclaimSlot, .setManual, .clearManual, .clearValveFault, .beginTest, .addTestSlot, .suspendTest,
   .resumeTest, .beginPurge]

/-- The command a code names, if it names one (R149, first check). -/
def commandOf (code : Byte) : Option Command := allCommands.find? fun c => codeOf c == code

/-- The byte of each result (section 10.1). -/
def Result.byte : Result → Byte
  | .ok => 0x00#8
  | .clamped => 0x01#8
  | .unknownCommand => 0x10#8
  | .badLength => 0x11#8
  | .notPermitted => 0x12#8
  | .badValue => 0x13#8
  | .adoptPending => 0x14#8
  | .planInvalid => 0x15#8
  | .slotState => 0x16#8
  | .allocState => 0x17#8
  | .storeBusy => 0x18#8
  | .procBusy => 0x19#8
  | .notGathering => 0x1A#8
  | .notRunning => 0x1B#8
  | .notSuspended => 0x1C#8
  | .setFull => 0x1D#8
  | .slotUnfit => 0x1E#8
  | .slotInProcedure => 0x1F#8
  | .slotInTest => 0x20#8
  | .keyRequired => 0x21#8
  | .valveFault => 0x22#8
  | .valveState => 0x23#8
  | .lineActive => 0x24#8

/-! ## Link frames (section 10.1) -/

/-- The sync byte of a link frame. -/
def linkSync : Byte := 0xA5#8

/-- The bytes a frame's CRC covers: its length, code and payload. -/
def frameBody (code : Byte) (p : Payload) : List Byte := byteOf (1 + p.length) :: code :: p

/-- A whole link frame: the sync byte, the body, and the body's CRC-16 low byte first. -/
def linkFrame (body : List Byte) : List Byte := linkSync :: body ++ leBytes 2 (crc16 body).toNat

/-- A request frame. -/
def requestFrame (code : Byte) (p : Payload) : List Byte := linkFrame (frameBody code p)

/-- A reply frame (R148, section 10.1): the command code with its top bit set, the result, the data. -/
def Reply.frame (r : Reply) : List Byte :=
  linkFrame (frameBody (r.code ||| 0x80#8) (r.result.byte :: r.data))

/-! ## Field-line frames (section 10.3) -/

/-- The sync byte of a field-line frame. -/
def fieldSync : Byte := 0x5A#8

/-- A head's field address (section 5.3). -/
def HeadAddr.address : HeadAddr → Nat
  | .manifold => 0
  | .slot i => i.val + 1

/-- The six bytes of a poll. -/
def Poll.frame (p : Poll) : List Byte :=
  let body := [byteOf p.head.address, byteOf p.commanded, flagByte p.drainOpen]
  fieldSync :: body ++ leBytes 2 (crc16 body).toNat

/-- The contents of a reply as its bytes give them (R25), before the clamp of R28. -/
structure HeadReply where
  address : Nat
  c : Nat
  o : Nat
  q : Nat
  pressure : Nat
  position : Nat
  drainOpen : Bool
  faults : FaultFlags
  deriving DecidableEq, Repr

/-- The number spelled by `k` bytes of a list from an offset. -/
def numAt (bytes : List Byte) (offset k : Nat) : Nat := leNat ((bytes.drop offset).take k)

/-- Fault flags from their byte: bit 0 methane, 1 oxygen, 2 flow, 3 valve; bits 4 to 7 are ignored. -/
def faultsOf (b : Byte) : FaultFlags :=
  { methane := b.getLsbD 0, oxygen := b.getLsbD 1, flow := b.getLsbD 2, valve := b.getLsbD 3 }

/-- The byte of fault flags. -/
def FaultFlags.byte (f : FaultFlags) : Byte :=
  byteOf (f.methane.toNat + 2 * f.oxygen.toNat + 4 * f.flow.toNat + 8 * f.valve.toNat)

/-- The contents of 17 reply bytes. A drain state other than closed (00h) is taken as open (R28). -/
def replyContents (bytes : List Byte) : HeadReply :=
  { address := numAt bytes 1 1
    c := numAt bytes 2 2
    o := numAt bytes 4 2
    q := numAt bytes 6 4
    pressure := numAt bytes 10 2
    position := numAt bytes 12 1
    drainOpen := numAt bytes 13 1 != 0
    faults := faultsOf (byteOf (numAt bytes 14 1)) }

/-- Whether bytes are a reply of 17 bytes with its sync byte and a correct check over every byte after
the sync (R25, section 10.3). -/
def replyIntact (bytes : List Byte) : Bool :=
  bytes.length == 17 && bytes.head? == some fieldSync &&
    numAt bytes 15 2 == (crc16 ((bytes.drop 1).take 14)).toNat

/-- The reply that bytes are to a poll of a head, or none when they make the poll a miss (R25). -/
def replyTo (head : HeadAddr) (bytes : List Byte) : Option HeadReply :=
  if replyIntact bytes && (replyContents bytes).address == head.address then some (replyContents bytes)
  else none

/-- The 17 bytes in which a head sends its contents (section 10.3). -/
def HeadReply.frame (r : HeadReply) : List Byte :=
  let body :=
    leBytes 1 r.address ++ leBytes 2 r.c ++ leBytes 2 r.o ++ leBytes 4 r.q ++ leBytes 2 r.pressure ++
      leBytes 1 r.position ++ [flagByte r.drainOpen, r.faults.byte]
  fieldSync :: body ++ leBytes 2 (crc16 body).toNat

end Sys2Proof.Machine
end

