-- ==== Sys2Proof/Machine/Flags.lean ====
section
/-! DEFINITION. The notice flags, the notice sets of the three links and their attention lines
(08_master_links.md, section 8.6). -/

namespace Sys2Proof.Machine

/-- The 15 notice flags (R157). -/
inductive Notice where
  | restarted
  | planLost
  | roundDone
  | planAdopted
  | mixAlarm
  | mixCleared
  | shutIn
  | tripLatched
  | valveFault
  | headSilent
  | slotStale
  | procedureDone
  | windowChange
  | storeDone
  | storeFailed
  deriving DecidableEq, Repr

/-- A flag's number, in the order of R157 (section 10.2). -/
def Notice.number : Notice → Nat
  | .restarted => 0
  | .planLost => 1
  | .roundDone => 2
  | .planAdopted => 3
  | .mixAlarm => 4
  | .mixCleared => 5
  | .shutIn => 6
  | .tripLatched => 7
  | .valveFault => 8
  | .headSilent => 9
  | .slotStale => 10
  | .procedureDone => 11
  | .windowChange => 12
  | .storeDone => 13
  | .storeFailed => 14

/-- The flag set that holds one flag. -/
def Notice.bit (f : Notice) : Word16 := 1#16 <<< f.number

/-- Every flag but the spare (number 15), which is never set (R157). -/
def knownFlags : Word16 := 0x7FFF#16

/-- A link with its attention line following its set and mask (R159). -/
def LinkState.refresh (k : LinkState) : LinkState := { k with attention := (k.notices &&& k.mask) != 0#16 }

/-- A link with flags added to its notice set. -/
def LinkState.notify (f : Notice) (k : LinkState) : LinkState :=
  { k with notices := k.notices ||| f.bit }.refresh

/-- The state of one link. -/
def Links.get (ls : Links) : Link → LinkState
  | .station => ls.station
  | .safety => ls.safety
  | .crew => ls.crew

/-- The links with the state of one replaced. -/
def Links.set (ls : Links) (l : Link) (k : LinkState) : Links :=
  match l with
  | .station => { ls with station := k }
  | .safety => { ls with safety := k }
  | .crew => { ls with crew := k }

/-- A function applied to each link. -/
def Links.map (f : LinkState → LinkState) (ls : Links) : Links :=
  { station := f ls.station, safety := f ls.safety, crew := f ls.crew }

/-- A block raises a notice: the flag is set on all three links, whatever their masks (R157). -/
def raise (f : Notice) (s : State) : State := { s with links := s.links.map (LinkState.notify f) }

/-- A notice raised when a condition holds. -/
def raiseIf (b : Bool) (f : Notice) (s : State) : State := if b then raise f s else s

end Sys2Proof.Machine
end

