-- ==== Sys2Proof/Machine/Operands.lean ====
section
/-! DEFINITION. The operand forms of the requests: the fields of a payload (section 10.2, R167), the
clamp of a value to its range (00_scope.md section 5.8), and a request's answer. -/

namespace Sys2Proof.Machine

/-- A one-byte field. -/
def u8 (p : Payload) (offset : Nat) : Nat := numAt p offset 1

/-- A two-byte field. -/
def u16 (p : Payload) (offset : Nat) : Nat := numAt p offset 2

/-- A four-byte field. -/
def u32 (p : Payload) (offset : Nat) : Nat := numAt p offset 4

/-- The index of a number counted from 1, when it lies in `1..n`. -/
def indexOf (n num : Nat) : Option (Fin n) :=
  if h : 1 ≤ num ∧ num ≤ n then some ⟨num - 1, by omega⟩ else none

/-- The slot a slot number names. -/
def slotOf (num : Nat) : Option SlotIdx := indexOf 60 num

/-- The zone a zone number names. -/
def zoneOfNum (num : Nat) : Option ZoneIdx := indexOf 10 num

/-- The slot number of a slot. -/
def slotNum (i : SlotIdx) : Nat := i.val + 1

/-- A value clamped to a range. -/
def clampTo (lo hi v : Nat) : Nat := max lo (min hi v)

/-- A block's answer to a request: the result and the data of the reply (R150). -/
structure Answer where
  result : Result
  data : List Byte
  deriving DecidableEq, Repr

/-- An acceptance whose reply carries data; CLAMPED when a value was stored as other than sent. -/
def accepted (clamped : Bool) (data : List Byte) : Answer :=
  { result := if clamped then .clamped else .ok, data := data }

/-- A refusal, which carries no data but in the two cases of section 10.6. -/
def refusal (r : Result) (data : List Byte := []) : Answer := { result := r, data := data }

end Sys2Proof.Machine
end

