-- ==== Sys2Proof/Machine/Ops.lean ====
section
/-! DEFINITION. The named reads and writes over the state that every block shares: zone spans, what
a slot is at a moment (in service, locked, tripped, in a procedure), and the updates of one block's
tables. -/

namespace Sys2Proof.Machine

/-! ## Zone spans (R5) -/

/-- The last slot b_k of zone `k`, counted from 1, with b_0 = 0: the stored last slot below Z, 60 from Z
on. -/
def Plan.bound (p : Plan) (k : Nat) : Nat :=
  if k = 0 then 0
  else if h : k - 1 < 10 ∧ k < p.zoneCount then (p.zones.get ⟨k - 1, h.1⟩).lastSlot
  else 60

/-- The first and last slot of a zone, or none for a zone number above Z. -/
def Plan.span (p : Plan) (k : ZoneIdx) : Option (Nat × Nat) :=
  if k.val + 1 ≤ p.zoneCount then some (p.bound k.val + 1, p.bound (k.val + 1)) else none

/-- The zone a slot lies in: the lowest zone whose last slot is not below it. -/
def Plan.zoneOf (p : Plan) (i : SlotIdx) : ZoneIdx :=
  (allZones.find? fun k => slotNum i ≤ p.bound (k.val + 1)).getD 0

/-- The boundary test of one zone number (R10): b_k lies in 1..59 and above b_{k−1}. -/
def Plan.boundaryOk (p : Plan) (k : Nat) : Bool :=
  1 ≤ p.bound k && p.bound k ≤ 59 && p.bound (k - 1) < p.bound k

/-- The first offending zone, by number: the lowest k in 1..Z−1 whose boundary fails (R10). -/
def Plan.firstOffending (p : Plan) : Option Nat :=
  ((List.range (p.zoneCount - 1)).map (· + 1)).find? fun k => !p.boundaryOk k

/-- Whether a plan passes the validation of R10. -/
def Plan.valid (p : Plan) : Bool := p.firstOffending.isNone

/-- A slot's stale limit (R8): its override when present, the plan's S otherwise. -/
def Plan.staleLimitOf (p : Plan) (i : SlotIdx) : Nat :=
  (p.entries.get i).staleOverride.getD p.staleLimit

/-- The zone that holds a slot in the active plan at this moment. -/
def zoneAt (s : State) (i : SlotIdx) : ZoneIdx := s.plan.active.zoneOf i

/-- The active plan's record of the zone that holds a slot. -/
def zoneRecordAt (s : State) (i : SlotIdx) : ZoneRecord := s.plan.active.zones.get (zoneAt s i)

/-! ## What a slot is at a moment -/

/-- A slot's lifecycle. -/
def lifecycleOf (s : State) (i : SlotIdx) : Lifecycle := (s.plan.roster.get i).lifecycle

/-- Whether the lifecycle is one whose head is polled and whose valve is in service (section 3.4). -/
def Lifecycle.inService : Lifecycle → Bool
  | .active => true
  | .retiring => true
  | .vacant => false
  | .retired => false

/-- Whether a slot is ACTIVE or RETIRING. -/
def inService (s : State) (i : SlotIdx) : Bool := (lifecycleOf s i).inService

/-- A slot's valve record. -/
def valveOf (s : State) (i : SlotIdx) : Valve := s.motion.valves.get i

/-- Whether a valve is STUCK. -/
def Valve.isStuck (v : Valve) : Bool := v.state == .stuck

/-- Whether a valve is MOVING. -/
def Valve.isMoving (v : Valve) : Bool :=
  match v.state with
  | .moving _ => true
  | .atRest => false
  | .stuck => false

/-- Whether a slot's zone in the active plan is locked (R99). -/
def zoneLocked (s : State) (i : SlotIdx) : Bool := s.gas.zoneLocks.get (zoneAt s i)

/-- Whether a slot is locked, by its own lock or by its zone's (R99). -/
def locked (s : State) (i : SlotIdx) : Bool := s.gas.slotLocks.get i || zoneLocked s i

/-- Whether a slot is in MANUAL mode. -/
def Mode.isManual : Mode → Bool
  | .auto => false
  | .manual _ => true

/-- Whether a slot is in MANUAL mode. -/
def inManual (s : State) (i : SlotIdx) : Bool := (s.plan.roster.get i).mode.isManual

/-- Whether a lock closes a slot: it is locked, and it is not a MANUAL slot under an active key (R58). -/
def closedByLock (s : State) (i : SlotIdx) : Bool := locked s i && !(inManual s i && s.gas.keyActive)

/-- The LATCHED line that trips a slot, if its zone names one (R115). -/
def trippingLine (s : State) (i : SlotIdx) : Option LineIdx :=
  (zoneRecordAt s i).tripLine.filter fun j => (s.trips.lines.get j).state == .latched

/-- Whether a slot is tripped (R115). -/
def tripped (s : State) (i : SlotIdx) : Bool := (trippingLine s i).isSome

/-- Whether a slot is in the test set. -/
def inTestSet (s : State) (i : SlotIdx) : Bool := s.proc.testSet.any fun t => t.slot == i

/-- Whether the test set is closed for its test: SETTLING or MEASURING (R58). -/
def testClosing (s : State) : Bool := s.proc.state == .settling || s.proc.state == .measuring

/-- Whether a slot is the purge slot. -/
def isPurgeSlot (s : State) (i : SlotIdx) : Bool := s.proc.purgeSlot == some i

/-- Whether a slot's head is SILENT. -/
def headSilent (s : State) (i : SlotIdx) : Bool := (s.scanner.heads.get i).any fun h => h.state == .silent

/-- Whether a slot's head is RESPONDING. -/
def headResponding (s : State) (i : SlotIdx) : Bool :=
  (s.scanner.heads.get i).any fun h => h.state == .responding

/-- A value of a slot's reading record, if it has one. -/
def readingOf (s : State) (field : ReadingRecord → Option Stamped) (i : SlotIdx) : Option Stamped :=
  (s.scanner.records.get i).bind field

/-- Whether the allocator is RUNNING. -/
def running (s : State) : Bool := s.rounds.allocator == .running

/-- Whether the allocator is SHUT-IN. -/
def Allocator.isShutIn : Allocator → Bool
  | .shutIn _ => true
  | .startup => false
  | .running => false
  | .held => false

/-- The effective floor (R91). -/
def GasMonitor.effectiveFloor (g : GasMonitor) : Nat :=
  match g.alarm with
  | .clear => g.limits.cFloor
  | .raised _ => min 900 (g.limits.cFloor + g.limits.margin)

/-! ## Updates of one table -/

/-- A slot's roster record replaced. -/
def setRoster (i : SlotIdx) (r : Roster) (s : State) : State :=
  { s with plan := { s.plan with roster := s.plan.roster.set i r } }

/-- A slot's valve record replaced. -/
def setValve (i : SlotIdx) (v : Valve) (s : State) : State :=
  { s with motion := { s.motion with valves := s.motion.valves.set i v } }

/-- A slot's head state replaced. -/
def setHead (i : SlotIdx) (h : Option Head) (s : State) : State :=
  { s with scanner := { s.scanner with heads := s.scanner.heads.set i h } }

/-- A slot's reading record replaced. -/
def setRecord (i : SlotIdx) (r : Option ReadingRecord) (s : State) : State :=
  { s with scanner := { s.scanner with records := s.scanner.records.set i r } }

/-- The Procedure Controller's state replaced. -/
def setProc (p : Procedure) (s : State) : State := { s with proc := p }

/-- A round request sent to the Round Controller (R46). -/
def requestRound (s : State) : State :=
  { s with rounds := { s.rounds with requests := s.rounds.requests + 1 } }

/-- A round request that is to be the next round event, sent to the Round Controller (R47). -/
def requestRoundAhead (s : State) : State :=
  { s with
    rounds :=
      { s.rounds with requests := s.rounds.requests + 1, requestsAhead := s.rounds.requestsAhead + 1 } }

/-- A gas-band request sent to the Round Controller (R53, R106). -/
def requestGasBand (s : State) : State :=
  { s with rounds := { s.rounds with gasBandRequests := s.rounds.gasBandRequests + 1 } }

/-- A round request sent when a condition holds. -/
def requestRoundIf (b : Bool) (s : State) : State := if b then requestRound s else s

end Sys2Proof.Machine
end

