-- ==== Sys2Proof/Machine/Motion.lean ====
section
/-! DEFINITION. The Valve Motion Controller (04_valve_motion.md): urgent closes, the motion queues and
their order, the issue of entries, the targets a round hands, and queue migration at an adoption (R13). -/

namespace Sys2Proof.Machine

/-! ## Urgent closes (R81) -/

/-- The effect of an urgent close on one valve: target and commanded position 0; a valve in service
that is not STUCK starts a move now; a valve out of service stays AT REST. -/
def Valve.urgentClose (life : Lifecycle) (now : Nat) (v : Valve) : Valve :=
  { v with
    target := 0
    commanded := 0
    state :=
      if life.inService then (if v.isStuck then .stuck else .moving now) else .atRest }

/-- The queue entries of chosen slots removed from every queue. -/
def removeEntries (sel : SlotIdx → Bool) (s : State) : State :=
  { s with
    motion := { s.motion with queues := s.motion.queues.map fun q => q.filter fun e => !sel e.slot } }

/-- An urgent close of every chosen slot. -/
def urgentClose (sel : SlotIdx → Bool) (s : State) : State :=
  let closed := Table.tabulate fun i =>
    if sel i then (valveOf s i).urgentClose (lifecycleOf s i) s.elapsed else valveOf s i
  removeEntries sel { s with motion := { s.motion with valves := closed } }

/-! ## Queue order (R72) -/

/-- Whether an entry may stand before another: closing entries first in ascending slot order, then
opening entries by the round that made them and that round's capacity order. -/
def entryBefore (a b : QueueEntry) : Bool :=
  match a.kind, b.kind with
  | .closing, .closing => a.slot ≤ b.slot
  | .closing, .opening _ _ => true
  | .opening _ _, .closing => false
  | .opening ra pa, .opening rb pb => ra < rb || (ra == rb && pa ≤ pb)

/-- Entries put into the queue order. -/
def sortQueue (q : List QueueEntry) : List QueueEntry := q.insertionSort fun a b => entryBefore a b = true

/-! ## Issuing steps (R75, R76) -/

/-- The number of a zone's valves that are MOVING, whatever sent them moving. -/
def movingCount (s : State) (k : ZoneIdx) : Nat :=
  allSlots.countP fun i => zoneAt s i == k && (valveOf s i).isMoving

/-- The number a stepping count allows, or none for ALL. -/
def Stepping.limit : Stepping → Option Nat
  | .one => some 1
  | .two => some 2
  | .four => some 4
  | .all => none

/-- Whether the zone's MOVING count is below its stepping count. -/
def steppingAllows (s : State) (k : ZoneIdx) : Bool :=
  match (s.plan.active.zones.get k).stepping.limit with
  | none => true
  | some n => movingCount s k < n

/-- Whether an entry may be issued: its valve is not MOVING, and it closes or the allocator is RUNNING. -/
def mayIssue (s : State) (e : QueueEntry) : Bool :=
  !(valveOf s e.slot).isMoving && (e.kind == .closing || running s)

/-- The issue of one entry of a zone's queue. -/
def issueEntry (k : ZoneIdx) (e : QueueEntry) (s : State) : State :=
  let v := valveOf s e.slot
  let s := { s with motion := { s.motion with queues := s.motion.queues.set k ((s.motion.queues.get k).erase e) } }
  setValve e.slot { v with commanded := e.position, state := .moving s.elapsed } s

/-- The first entry in queue order that may be issued, while the zone's stepping count allows. -/
def nextIssue (s : State) (k : ZoneIdx) : Option QueueEntry :=
  if steppingAllows s k then (s.motion.queues.get k).find? (mayIssue s) else none

/-- Entries of a zone issued one after another, at most `n`. -/
def issueLoop : Nat → ZoneIdx → State → State
  | 0, _, s => s
  | n + 1, k, s =>
    match nextIssue s k with
    | none => s
    | some e => issueLoop n k (issueEntry k e s)

/-- A zone tested for issue until the test fails; each issue shortens the queue. -/
def issueZone (k : ZoneIdx) (s : State) : State := issueLoop (s.motion.queues.get k).length k s

/-- Every zone tested for issue. -/
def issueAll (s : State) : State := allZones.foldl (fun s k => issueZone k s) s

/-- A slot's urgent close, after which its zone is tested for issue. -/
def closeSlot (i : SlotIdx) (s : State) : State := issueZone (zoneAt s i) (urgentClose (fun j => j == i) s)

/-- The urgent close of several slots, after which every zone is tested for issue. -/
def closeSlots (sel : SlotIdx → Bool) (s : State) : State := issueAll (urgentClose sel s)

/-! ## Targets handed by a round (R73, R74) -/

/-- The entry a handed target makes: closing below the commanded position, opening above it, limited to
the ramp limit of the slot's zone, none at it. -/
def entryFor (s : State) (round place : Nat) (i : SlotIdx) (target : Nat) : Option QueueEntry :=
  let commanded := (valveOf s i).commanded
  if target < commanded then some { slot := i, kind := .closing, position := target }
  else if commanded < target then
    some
      { slot := i
        kind := .opening round place
        position := min target (commanded + (zoneRecordAt s i).ramp) }
  else none

/-- The entries that handed targets make for the slots of a zone. -/
def newEntries (s : State) (round : Nat) (hands : SlotIdx → Option Nat) (place : SlotIdx → Nat) (k : ZoneIdx) :
    List QueueEntry :=
  allSlots.filterMap fun i =>
    if zoneAt s i == k then (hands i).bind fun u => entryFor s round (place i) i u else none

/-- A round's targets handed over: each is written into its valve record, and the slot's entry is made
again or removed. Slots handed nothing keep their entries. -/
def handTargets (round : Nat) (hands : SlotIdx → Option Nat) (place : SlotIdx → Nat) (s : State) : State :=
  { s with
    motion :=
      { valves := Table.tabulate fun i => { valveOf s i with target := (hands i).getD (valveOf s i).target }
        queues := Table.tabulate fun k =>
          sortQueue
            ((s.motion.queues.get k).filter (fun e => (hands e.slot).isNone) ++ newEntries s round hands place k) } }

/-! ## Queue migration (R13) -/

/-- Every queue entry, zone by zone. -/
def allEntries (s : State) : List QueueEntry := allZones.flatMap fun k => s.motion.queues.get k

/-- Every entry moved to the queue of its slot's zone in the active plan, in the queue order. -/
def migrateQueues (s : State) : State :=
  { s with
    motion :=
      { s.motion with
        queues := Table.tabulate fun k => sortQueue ((allEntries s).filter fun e => zoneAt s e.slot == k) } }

end Sys2Proof.Machine
end

