-- ==== Sys2Proof/Machine/Procedure.lean ====
section
/-! DEFINITION. The Procedure Controller (07_borehole_procedures.md): fitness, the test set, settling and
measuring, the results list, and a valve becoming STUCK with what that does to a test. -/

namespace Sys2Proof.Machine

/-! ## Fitness (R127) -/

/-- Whether a standing of the allocation record leaves a slot fit (seventh condition of R127). -/
def Standing.fitForTest : Standing → Bool
  | .absent => false
  | .fixed => false
  | .closed .retiring => false
  | .closed .stale => false
  | .closed .noReading => false
  | .closed .locked => true
  | .closed .tripped => true
  | .closed .inTest => true
  | .ranked => true

/-- A slot's entry in the allocation record, if there is a record and it holds one. -/
def recordEntry (s : State) (i : SlotIdx) : Option AllocEntry := s.rounds.record.bind fun r => r.entries.get i

/-- Whether a slot has a good value of each of c, o and q. -/
def hasReadings (s : State) (i : SlotIdx) : Bool :=
  (readingOf s (·.methane) i).isSome && (readingOf s (·.oxygen) i).isSome && (readingOf s (·.flow) i).isSome

/-- Whether a slot is fit for a test, by the seven conditions of R127. -/
def fit (s : State) (i : SlotIdx) : Bool :=
  lifecycleOf s i == .active && !inManual s i && !locked s i && !tripped s i &&
    (!(valveOf s i).isStuck && headResponding s i) && hasReadings s i &&
    (recordEntry s i).any fun e => e.standing.fitForTest

/-! ## The results list (R141) -/

/-- A record appended to a list that holds at most 16, the oldest going first. -/
def appendResult (rs : List ResultRecord) (r : ResultRecord) : List ResultRecord :=
  (rs ++ [r]).drop (rs.length + 1 - 16)

/-- Places of the test set in ascending slot order. -/
def ascending (ts : List TestPlace) : List TestPlace := ts.insertionSort fun a b => a.slot ≤ b.slot

/-- A record made for each of several places, appended in ascending slot order. -/
def appendFor (mk : TestPlace → ResultRecord) (ts : List TestPlace) (rs : List ResultRecord) : List ResultRecord :=
  ((ascending ts).map mk).foldl appendResult rs

/-- A record with no pressures, no rise rate and 0 measured seconds. -/
def bareResult (outcome : TestOutcome) (t : TestPlace) : ResultRecord :=
  { slot := t.slot, outcome := outcome, startPressure := none, endPressure := none, seconds := 0,
    riseRate := none }

/-- The rise rate (R142), in 10 Pa per minute, truncated toward zero. -/
def riseRate (start stop seconds : Nat) : Int := (((stop : Int) - (start : Int)) * 60).tdiv (seconds : Int)

/-! ## Leaving the set and ending a test -/

/-- The chosen places leave the set without a valid measurement: a record is appended for each and the
error flag is set (R140). -/
def Procedure.leave (gone : TestPlace → Bool) (mk : TestPlace → ResultRecord) (p : Procedure) : Procedure :=
  { p with
    testSet := p.testSet.filter fun t => !gone t
    results := appendFor mk (p.testSet.filter gone) p.results
    errorFlag := p.errorFlag || p.testSet.any gone }

/-- The controller IDLE again: the set, D, every timer and the purge slot removed; the error flag and the
results list kept. That D goes with every test that ends is log entry 8. -/
def Procedure.finish (p : Procedure) : Procedure :=
  { p with
    state := .idle
    testSet := []
    duration := none
    gatherExpiry := none
    measureStart := none
    measureExpiry := none
    purgeSlot := none
    purgeExpiry := none }

/-- The return to IDLE, with its notice. -/
def finishProcedure (s : State) : State := raise .procedureDone (setProc s.proc.finish s)

/-- The return to IDLE when every slot has left the set. -/
def finishIfEmpty (s : State) : State := if s.proc.testSet.isEmpty then finishProcedure s else s

/-! ## Settling and measuring (R130 to R133) -/

/-- The value of a slot's pressure entry. -/
def pressureOf (s : State) (i : SlotIdx) : Option Nat := (readingOf s (·.pressure) i).map (·.value)

/-- The controller in MEASURING, the set slots with a SILENT head gone as NOREADING (steps 1 and 2 of
R132). -/
def measuringProc (s : State) : Procedure :=
  { s.proc with state := .measuring }.leave (fun t => headSilent s t.slot) (bareResult .noReading)

/-- The measuring of a set begun: start pressures and times (step 4 of R132). -/
def startedMeasuring (s : State) (p : Procedure) : Procedure :=
  { p with
    testSet := p.testSet.map fun t => { t with startPressure := pressureOf s t.slot }
    measureStart := some s.elapsed
    measureExpiry := some (s.elapsed + p.duration.getD 0) }

/-- The entry into MEASURING (R132). -/
def enterMeasuring (s : State) : State :=
  if (measuringProc s).testSet.isEmpty then finishProcedure (setProc (measuringProc s) s)
  else setProc (startedMeasuring s (measuringProc s)) s

/-- The examination of the test set after each event of a settling (R131). -/
def examineSettling (s : State) : State :=
  if s.proc.testSet.isEmpty then finishProcedure s
  else if s.proc.testSet.all fun t => t.sealedMark then enterMeasuring s
  else s

/-- A good reported position of 2 or less taken for a slot: a set slot is marked sealed in SETTLING
(R131). -/
def sealSlot (i : SlotIdx) (s : State) : State :=
  if s.proc.state == .settling && inTestSet s i then
    examineSettling
      (setProc
        { s.proc with
          testSet := s.proc.testSet.map fun t => if t.slot == i then { t with sealedMark := true } else t }
        s)
  else s

/-- A set slot whose valve has become STUCK in SETTLING leaves as NOSEAL, and the set is examined after it
(R131). When that leads into MEASURING, the NOSEAL record goes into the list before the NOREADING records of
R132, which are in ascending slot order among themselves; whether all of them are one moment of R132 and
R141 is left open: DESIGN CHOICE, log entry 27. -/
def dropStuck (i : SlotIdx) (s : State) : State :=
  if s.proc.state == .settling && inTestSet s i then
    examineSettling (setProc (s.proc.leave (fun t => t.slot == i) (bareResult .noSeal)) s)
  else s

/-- A set slot whose head has become SILENT in MEASURING leaves as NOREADING (R133). -/
def dropSilent (i : SlotIdx) (s : State) : State :=
  if s.proc.state == .measuring && inTestSet s i then
    let record := fun t : TestPlace =>
      { bareResult .noReading t with
        startPressure := t.startPressure
        seconds := s.elapsed - s.proc.measureStart.getD s.elapsed }
    finishIfEmpty (setProc (s.proc.leave (fun t => t.slot == i) record) s)
  else s

/-- The steps of a gathering window's expiry (R130) and of a resumption (R136): SETTLING, every set slot
urgently closed, the STUCK ones leaving as NOSEAL, and IDLE when none is left. -/
def settle (s : State) : State :=
  let s := setProc { s.proc with state := .settling, gatherExpiry := none } s
  let s := urgentClose (inTestSet s) s
  let s := setProc (s.proc.leave (fun t => (valveOf s t.slot).isStuck) (bareResult .noSeal)) s
  issueAll (finishIfEmpty s)

/-! ## A valve becoming STUCK (R79, R80, R131) -/

/-- A valve becomes STUCK: its queue entry is removed, ValveFault is noticed, and a set slot leaves
a settling test. A valve already STUCK is left as it is. The zone is tested for issue by the caller. -/
def stickValve (i : SlotIdx) (s : State) : State :=
  if (valveOf s i).isStuck then s
  else
    dropStuck i
      (raise .valveFault
        (removeEntries (fun j => j == i) (setValve i { valveOf s i with state := .stuck } s)))

/-- A valve becomes STUCK and its zone is tested for issue (R79, R80); nothing changes when it is STUCK
already. The slot's queue entry is removed before the test: DEDUCED, log entry 4. -/
def stickAndIssue (i : SlotIdx) (s : State) : State :=
  if (valveOf s i).isStuck then s else issueZone (zoneAt s i) (stickValve i s)

/-- Whether a slot's move has reached the travel timeout T of the active plan (R79). -/
def moveExpired (s : State) (i : SlotIdx) : Bool :=
  match (valveOf s i).state with
  | .moving start => start + s.plan.active.travelTimeout ≤ s.elapsed
  | .atRest => false
  | .stuck => false

end Sys2Proof.Machine
end

