-- ==== Sys2Proof/Machine/Round.lean ====
section
/-! DEFINITION. Round events (03_allocation_rounds.md): the completion of an adoption, the standings, the
two passes, the allocation record, the hand-over of targets, and the closing of the manifold. -/

namespace Sys2Proof.Machine

/-! ## Standings (R56 to R59) -/

/-- The oldest of the times of a slot's c, o and q, when all three are present (R59). -/
def oldestReading (s : State) (i : SlotIdx) : Option Nat :=
  match readingOf s (·.methane) i, readingOf s (·.oxygen) i, readingOf s (·.flow) i with
  | some c, some o, some q => some (min c.time (min o.time q.time))
  | _, _, _ => none

/-- Whether a slot's readings are older than its stale limit (R59). -/
def isStale (s : State) (i : SlotIdx) : Bool :=
  (oldestReading s i).any fun t => s.plan.active.staleLimitOf i < s.elapsed - t

/-- The closing reason of a slot: the first of R58 that applies, in the order listed there. R15 has a locked
or tripped new slot stand CLOSED for NOREADING until it has its readings, where R58 records LOCKED or TRIPPED;
which of the two such a slot shows is a free value (log entry 29). -/
def closedReason (s : State) (i : SlotIdx) : Option ClosedReason :=
  if lifecycleOf s i == .retiring then some .retiring
  else if !hasReadings s i && (closedByLock s i || tripped s i) && Config.noReadingFirst then some .noReading
  else if closedByLock s i then some .locked
  else if tripped s i then some .tripped
  else if inTestSet s i && testClosing s then some .inTest
  else if !hasReadings s i then some .noReading
  else if isStale s i then some .stale
  else none

/-- Whether a slot in service stands FIXED (R56). -/
def standsFixed (s : State) (i : SlotIdx) : Bool :=
  (valveOf s i).isStuck || headSilent s i || isPurgeSlot s i

/-- A slot's standing (R56), or none for a VACANT slot. -/
def standing (s : State) (i : SlotIdx) : Option Standing :=
  match lifecycleOf s i with
  | .vacant => none
  | .retired => some .absent
  | .active | .retiring =>
    if standsFixed s i then some .fixed
    else
      match closedReason s i with
      | some r => some (.closed r)
      | none => some .ranked

/-! ## The passes (R61 to R65) -/

/-- The running sums of a round (R62). -/
structure Sums where
  f : Nat
  m : Nat
  x : Nat
  deriving DecidableEq, Repr

/-- The sums with a slot's predicted flow, at its c and o, added. -/
def Sums.add (t : Sums) (y c o : Nat) : Sums := { f := t.f + y, m := t.m + c * y, x := t.x + o * y }

/-- A slot's yield estimate. -/
def yieldOf (s : State) (i : SlotIdx) : Nat := (s.plan.roster.get i).yieldEst.getD 0

/-- The predicted flow of a FIXED slot at its present position (R57). -/
def fixedFlow (s : State) (i : SlotIdx) : Nat :=
  yieldOf s i * ((readingOf s (·.position) i).map (·.value)).getD (valveOf s i).commanded / 100

/-- A reading's value with the value counted in its absence (R57). -/
def readingOr (s : State) (field : ReadingRecord → Option Stamped) (absent : Nat) (i : SlotIdx) : Nat :=
  ((readingOf s field i).map (·.value)).getD absent

/-- The slots that stand FIXED. -/
def fixedSlots (s : State) : List SlotIdx := allSlots.filter fun i => standing s i == some .fixed

/-- The sums that the FIXED slots give (R57, R62); no good c counts as 0, no good o as 210. -/
def fixedSums (s : State) : Sums :=
  (fixedSlots s).foldl
    (fun t i => t.add (fixedFlow s i) (readingOr s (·.methane) 0 i) (readingOr s (·.oxygen) 210 i))
    { f := 0, m := 0, x := 0 }

/-- A RANKED slot as the passes see it. -/
structure Candidate where
  slot : SlotIdx
  priority : Nat
  c : Nat
  o : Nat
  estimate : Nat
  desired : Nat
  uMin : Nat
  deriving DecidableEq, Repr

/-- The desired opening of a RANKED slot (R61). -/
def desiredOpening (s : State) (i : SlotIdx) : Nat :=
  let uMax := (s.plan.active.entries.get i).uMax
  let d :=
    match (s.plan.roster.get i).mode with
    | .auto => uMax
    | .manual setpoint => min setpoint uMax
  match s.trips.ceilings.get (zoneAt s i) with
  | some ceiling => min d ceiling
  | none => d

/-- What the passes read of a RANKED slot. -/
def candidate (s : State) (i : SlotIdx) : Candidate :=
  { slot := i
    priority := (s.plan.active.entries.get i).priority
    c := readingOr s (·.methane) 0 i
    o := readingOr s (·.oxygen) 0 i
    estimate := yieldOf s i
    desired := desiredOpening s i
    uMin := (s.plan.active.entries.get i).uMin }

/-- The RANKED slots. -/
def candidates (s : State) : List Candidate :=
  (allSlots.filter fun i => standing s i == some .ranked).map (candidate s)

/-- The desired yield (R61). -/
def Candidate.desiredYield (a : Candidate) : Nat := a.estimate * a.desired / 100

/-- Pass B's order: c, higher first, then slot number (R64). -/
def richerFirst (a b : Candidate) : Bool := b.c < a.c || (a.c == b.c && a.slot ≤ b.slot)

/-- The capacity order: priority class, higher first, then as pass B (R63). -/
def capacityFirst (a b : Candidate) : Bool :=
  b.priority < a.priority || (a.priority == b.priority && richerFirst a b)

/-- The RANKED slots in the capacity order (R63). -/
def capacityOrder (s : State) : List Candidate :=
  (candidates s).insertionSort fun a b => capacityFirst a b = true

/-- A RANKED slot with its grant and its place in the capacity order. -/
structure Granted where
  cand : Candidate
  grant : Nat
  place : Nat
  deriving DecidableEq, Repr

/-- Pass A (R63): each slot in the order is granted the lesser of its desired yield and what remains. -/
def passA : List Candidate → Nat → Nat → List Granted
  | [], _, _ => []
  | a :: rest, place, remaining =>
    let g := min a.desiredYield remaining
    { cand := a, grant := g, place := place } :: passA rest (place + 1) (remaining - g)

/-- The methane allowance of R64; none is unlimited. -/
def methaneAllowance (floor c : Nat) (t : Sums) : Option Nat :=
  if floor ≤ c then none
  else if floor * t.f ≤ t.m then some ((t.m - floor * t.f) / (floor - c))
  else some 0

/-- The oxygen allowance of R64; none is unlimited. -/
def oxygenAllowance (ceiling o : Nat) (t : Sums) : Option Nat :=
  if o ≤ ceiling then none
  else if t.x ≤ ceiling * t.f then some ((ceiling * t.f - t.x) / (o - ceiling))
  else some 0

/-- A flow bounded by an allowance. -/
def boundBy : Option Nat → Nat → Nat
  | none, g => g
  | some a, g => min g a

/-- The permitted flow y_allow (R64). -/
def permittedFlow (floor ceiling : Nat) (t : Sums) (g : Granted) : Nat :=
  boundBy (oxygenAllowance ceiling g.cand.o t) (boundBy (methaneAllowance floor g.cand.c t) g.grant)

/-- The target a permitted flow gives (R65), 0 below the regulating minimum. -/
def targetFor (a : Candidate) (allow : Nat) : Nat :=
  let u := allow * 100 / a.estimate
  if u < a.uMin then 0 else u

/-- A RANKED slot with its target and its predicted flow. -/
structure Allotted where
  granted : Granted
  target : Nat
  flow : Nat
  deriving DecidableEq, Repr

/-- One slot's turn in pass B (R64, R65). -/
def allot (floor ceiling : Nat) (t : Sums) (g : Granted) : Allotted :=
  let u := targetFor g.cand (permittedFlow floor ceiling t g)
  { granted := g, target := u, flow := g.cand.estimate * u / 100 }

/-- Pass B (R64, R65): each slot in turn, the sums growing before the next. -/
def passB (floor ceiling : Nat) : List Granted → Sums → List Allotted × Sums
  | [], t => ([], t)
  | g :: rest, t =>
    let a := allot floor ceiling t g
    let r := passB floor ceiling rest (t.add a.flow g.cand.c g.cand.o)
    (a :: r.1, r.2)

/-- Pass A's grants of a round. -/
def grants (s : State) : List Granted :=
  passA (capacityOrder s) 1 (s.rounds.capacity - (fixedSums s).f)

/-- Pass B's outcome of a round. -/
def allotments (s : State) : List Allotted × Sums :=
  passB s.gas.effectiveFloor s.gas.limits.oCeil
    ((grants s).insertionSort fun a b => richerFirst a.cand b.cand = true) (fixedSums s)

/-! ## The allocation record (R67) -/

/-- A slot's entry in the record. -/
def allocEntry (s : State) (allotted : List Allotted) (i : SlotIdx) : Option AllocEntry :=
  match standing s i with
  | none => none
  | some .absent => some { standing := .absent, target := 0, flow := 0, grant := none, place := none }
  | some .fixed =>
    some
      { standing := .fixed, target := (valveOf s i).target, flow := fixedFlow s i, grant := none,
        place := none }
  | some (.closed r) =>
    some { standing := .closed r, target := 0, flow := 0, grant := none, place := none }
  | some .ranked =>
    (allotted.find? fun a => a.granted.cand.slot == i).map fun a =>
      { standing := .ranked, target := a.target, flow := a.flow, grant := some a.granted.grant,
        place := some a.granted.place }

/-- The allocation computed from the state as it stands (R45, R62 to R67). -/
def allocate (s : State) : AllocRecord :=
  let r := allotments s
  { serial := s.rounds.computed + 1
    capacity := s.rounds.capacity
    floor := s.gas.effectiveFloor
    ceiling := s.gas.limits.oCeil
    sumF := r.2.f
    sumM := r.2.m
    sumX := r.2.x
    order := (capacityOrder s).map (·.slot)
    entries := Table.tabulate (allocEntry s r.1) }

/-- The predicted blend (R67), absent when F is 0. -/
def AllocRecord.blend (r : AllocRecord) : Option Nat := if r.sumF = 0 then none else some (r.sumM / r.sumF)

/-- The predicted oxygen (R67), absent when F is 0. -/
def AllocRecord.oxygen (r : AllocRecord) : Option Nat := if r.sumF = 0 then none else some (r.sumX / r.sumF)

/-- The unused capacity (R67): Q − F, or 0 when F exceeds Q. -/
def AllocRecord.unused (r : AllocRecord) : Nat := r.capacity - r.sumF

/-- A serial count of rounds as a round number, which wraps after 4 294 967 295 (R40). -/
def roundNumber (serial : Nat) : Nat := serial % 2 ^ 32

/-! ## A computed round (R44, R60, R68) -/

/-- The target a record hands a slot: to RANKED and CLOSED slots only (R68). -/
def AllocRecord.handed (r : AllocRecord) (i : SlotIdx) : Option Nat :=
  (r.entries.get i).bind fun e =>
    match e.standing with
    | .ranked => some e.target
    | .closed _ => some 0
    | .fixed => none
    | .absent => none

/-- A slot's place in the record's capacity order. -/
def AllocRecord.placeOf (r : AllocRecord) (i : SlotIdx) : Nat := ((r.entries.get i).bind (·.place)).getD 0

/-- Whether a record shows a slot CLOSED for STALE. -/
def AllocRecord.showsStale (r : AllocRecord) (i : SlotIdx) : Bool :=
  (r.entries.get i).any fun e => e.standing == .closed .stale

/-- The stale-run marks after a computed round (R60): a slot that takes no standing keeps its mark. -/
def newMarks (r : AllocRecord) (marks : Table 60 Bool) : Table 60 Bool :=
  Table.tabulate fun i => if (r.entries.get i).isSome then r.showsStale i else marks.get i

/-- Whether a slot begins a run of STALE rounds (R60). -/
def newlyStale (r : AllocRecord) (marks : Table 60 Bool) : Bool :=
  allSlots.any fun i => r.showsStale i && !marks.get i

/-- Step 2 of R44: the allocation computed, the record replaced, the marks updated, the targets handed
over, RoundDone noticed. -/
def computeRound (s : State) : State :=
  let r := allocate s
  let t :=
    { s with
      rounds :=
        { s.rounds with
          computed := r.serial
          record := some r
          staleMarks := newMarks r s.rounds.staleMarks } }
  raiseIf (newlyStale r s.rounds.staleMarks) .slotStale
    (raise .roundDone (handTargets r.serial r.handed r.placeOf t))

/-- Step 1 of R44 (R11 to R13): the pending plan copied whole, EDITABLE, PlanAdopted, the queues migrated,
and every move whose age has reached the new travel timeout timed out at the copy (R12, R79). No rule orders
several moves that time out at one copy; they are taken in ascending slot order, a settling test examined
after each (R131): DESIGN CHOICE, log entry 25. -/
def completeAdoption (s : State) : State :=
  match s.plan.adoption with
  | .editable => s
  | .adopting =>
    let t := { s with plan := { s.plan with active := s.plan.pendingPlan, adoption := .editable } }
    let t := migrateQueues (raise .planAdopted t)
    (allSlots.filter (moveExpired t)).foldl (fun t i => stickValve i t) t

/-- Step 3 of R44: the missed flag set. -/
def markMissed (s : State) : State := { s with rounds := { s.rounds with missed := true } }

/-- Steps 2 and 3 of R44: an allocation is computed while the allocator is RUNNING, and the round is missed
otherwise. -/
def computeOrMiss (s : State) : State := if running s then computeRound s else markMissed s

/-- A round event, taken whole (R44). Entries are issued when the whole event has been taken (log entry
3). -/
def roundEvent (s : State) : State := issueAll (computeOrMiss (completeAdoption s))

/-! ## Requested rounds (R46, R47) -/

/-- One waiting request taken as one round event (R46); with none waiting nothing happens (log entry 5). -/
def takeRequested (s : State) : State :=
  match s.rounds.requests with
  | 0 => s
  | n + 1 =>
    roundEvent
      { s with rounds := { s.rounds with requests := n, requestsAhead := s.rounds.requestsAhead - 1 } }

/-- The requested rounds that Set Capacity made the next round events (R47), taken before a round event of
another kind. That they are taken within that event's command, when it comes while they wait, is log entry
9. -/
def roundsAhead (s : State) : State := takeRequested^[s.rounds.requestsAhead] s

/-! ## Closing the manifold (R48) and entering SHUT-IN (R52, R53) -/

/-- The closing of the manifold: every target 0, every queue cleared, every valve in service urgently
closed, the others at target and commanded position 0. -/
def closeManifold (s : State) : State :=
  let t := urgentClose (fun _ => true) s
  { t with motion := { t.motion with queues := Table.fill [] } }

/-- The entry into SHUT-IN with a cause. -/
def enterShutIn (cause : ShutCause) (s : State) : State :=
  raise .shutIn (closeManifold { s with rounds := { s.rounds with allocator := .shutIn cause } })

end Sys2Proof.Machine
end

