-- ==== Sys2Proof/Machine/Layout.lean ====
section
/-! DEFINITION. The byte layouts of the records that replies and the stored image carry
(10_frame_and_record_layouts.md, sections 10.4 to 10.6 and R169). -/

namespace Sys2Proof.Machine

/-! ## Plan records -/

/-- A stepping count as a number, 0 for ALL (R6, section 10.5). -/
def Stepping.number : Stepping → Nat
  | .one => 1
  | .two => 2
  | .four => 4
  | .all => 0

/-- A trip line as a number, 0 for none. -/
def lineNum : Option LineIdx → Nat
  | none => 0
  | some j => j.val + 1

/-- A zone record in 4 bytes: last slot, ramp limit, stepping count, trip line. -/
def ZoneRecord.bytes (z : ZoneRecord) : List Byte :=
  [byteOf z.lastSlot, byteOf z.ramp, byteOf z.stepping.number, byteOf (lineNum z.tripLine)]

/-- A tag padded to 12 bytes. -/
def tagBytes (tag : List Byte) : List Byte := tag ++ List.replicate (12 - tag.length) 0#8

/-- A slot entry in 18 bytes, as Read Slot and the stored image give it. -/
def SlotEntry.bytes (e : SlotEntry) : List Byte :=
  [byteOf e.priority, byteOf e.uMax, byteOf e.uMin] ++ leOpt 2 e.staleOverride ++
    (byteOf e.tag.length :: tagBytes e.tag)

/-- A slot entry in the layout of Edit Slot Entry's payload, where an override of 0 means absent (R167). -/
def SlotEntry.echo (i : SlotIdx) (e : SlotEntry) : List Byte :=
  [byteOf (slotNum i), byteOf e.priority, byteOf e.uMax, byteOf e.uMin] ++
    leBytes 2 (e.staleOverride.getD 0) ++ (byteOf e.tag.length :: e.tag)

/-- A plan's parameters as Read Zone gives them: Z (1), S (2), T (1). -/
def Plan.paramBytes (p : Plan) : List Byte :=
  byteOf p.zoneCount :: leBytes 2 p.staleLimit ++ [byteOf p.travelTimeout]

/-- A lifecycle's byte (section 10.5). -/
def Lifecycle.byte : Lifecycle → Byte
  | .vacant => 0#8
  | .active => 1#8
  | .retiring => 2#8
  | .retired => 3#8

/-- A round mode's byte (R167). -/
def RoundMode.byte : RoundMode → Byte
  | .cycling => 0#8
  | .stepped => 1#8

/-! ## Quiet window fields -/

/-- A weekday or an hour, FFh for ANY (R167). -/
def anyByte (v : Option Nat) : Byte := (v.map byteOf).getD 0xFF#8

/-- A window entry in its 8 bytes: enabled, weekday, hour, minute, duration, zone set (2), ceiling. -/
def WindowEntry.bytes (e : WindowEntry) : List Byte :=
  [flagByte e.enabled, anyByte e.weekday, anyByte e.hour, byteOf e.minute, byteOf e.duration] ++
    leBytes 2 e.zones.toNat ++ [byteOf e.ceiling]

/-- The drainage clock in 4 bytes, in the order of Set Clock. -/
def Clock.bytes (c : Clock) : List Byte := [byteOf c.weekday, byteOf c.hour, byteOf c.minute, byteOf c.second]

/-! ## Limits, links and procedures -/

/-- The limit block of 8 bytes: C_floor (2), O_ceil, A_floor (2), A_O2, margin, K. -/
def Limits.bytes (l : Limits) : List Byte :=
  leBytes 2 l.cFloor ++ [byteOf l.oCeil] ++ leBytes 2 l.aFloor ++
    [byteOf l.aO2, byteOf l.margin, byteOf l.alarmCount]

/-- An allocator state's byte (Read Status). -/
def Allocator.byte : Allocator → Byte
  | .startup => 0#8
  | .running => 1#8
  | .held => 2#8
  | .shutIn _ => 3#8

/-- A shut-in cause's byte. -/
def ShutCause.byte : ShutCause → Byte
  | .commanded => 0#8
  | .gasBand => 1#8

/-- A trip line state's byte. -/
def LineState.byte : LineState → Byte
  | .armed => 0#8
  | .latched => 1#8
  | .disarmed => 2#8

/-- A procedure state's byte, in the order of R125. -/
def ProcState.byte : ProcState → Byte
  | .idle => 0#8
  | .gathering => 1#8
  | .settling => 2#8
  | .measuring => 3#8
  | .suspended => 4#8
  | .suspendedPurging => 5#8
  | .purging => 6#8

/-- A trip line's state and debounced input. -/
def TripLine.bytes (ln : TripLine) : List Byte := [ln.state.byte, flagByte ln.inputActive]

/-- The slots of the test set in eight places, 00h when unused, in the order in which they joined (log entry
26). -/
def setSlots (ts : List TestPlace) : List Byte :=
  (ts.take 8).map (fun t => byteOf (slotNum t.slot)) ++ List.replicate (8 - ts.length) 0#8

/-- What is left of a time limit, absent when there is none. -/
def secondsLeft (s : State) (expiry : Option Nat) : Option Nat := expiry.map fun e => e - s.elapsed

/-- The age of a value: the elapsed-seconds count now less its time (R29). -/
def ageOf (s : State) (v : Option Stamped) : Option Nat := v.map fun x => s.elapsed - x.time

/-! ## Standings and record entries (section 10.4) -/

/-- A closing reason's status byte. -/
def ClosedReason.byte : ClosedReason → Byte
  | .retiring => 2#8
  | .locked => 3#8
  | .tripped => 4#8
  | .inTest => 5#8
  | .noReading => 6#8
  | .stale => 7#8

/-- An entry's status byte: 80h + n for a slot RANKED at position n. -/
def AllocEntry.statusByte (e : AllocEntry) : Byte :=
  match e.standing with
  | .absent => 0#8
  | .fixed => 1#8
  | .closed r => r.byte
  | .ranked => byteOf (0x80 + e.place.getD 0)

/-- An entry of a round summary page: 2 bytes, 5 when FIXED, 7 when RANKED. -/
def AllocEntry.bytes (i : SlotIdx) (e : AllocEntry) : List Byte :=
  [byteOf (slotNum i), e.statusByte] ++
    match e.standing with
    | .absent => []
    | .closed _ => []
    | .fixed => byteOf e.target :: leBytes 2 e.flow
    | .ranked => byteOf e.target :: leBytes 2 e.flow ++ leBytes 2 (e.grant.getD 0)

end Sys2Proof.Machine
end

