-- ==== Sys2Proof/Machine/Gas.lean ====
section
/-! DEFINITION. The Gas Limit Monitor's own operations (05_gas_limits_and_locks.md): the clamps of the
limits, the mix alarm, the manifold watch, the gas band and the key release. -/

namespace Sys2Proof.Machine

/-- The clamps of Set Limits (R92), each using the values already settled. -/
def clampLimits (sent : Limits) : Limits :=
  let cFloor := clampTo 250 900 sent.cFloor
  let oCeil := clampTo 5 50 sent.oCeil
  { cFloor := cFloor
    oCeil := oCeil
    aFloor := min cFloor (max 200 sent.aFloor)
    aO2 := min 80 (max oCeil sent.aO2)
    margin := min 200 sent.margin
    alarmCount := clampTo 1 10 sent.alarmCount }

/-- Whether the mix alarm is RAISED. -/
def Alarm.isRaised : Alarm → Bool
  | .clear => false
  | .raised _ => true

/-- Whether new limits ask for a round (R94). -/
def limitsTighten (raised : Bool) (old new : Limits) : Bool :=
  old.cFloor < new.cFloor || new.oCeil < old.oCeil || (raised && old.margin < new.margin)

/-- The raising of the mix alarm (R102, R104): cause, counters 0, MixAlarm, a round requested. -/
def raiseAlarm (cause : AlarmCause) (s : State) : State :=
  requestRound
    (raise .mixAlarm { s with gas := { s.gas with alarm := .raised cause, outCount := 0, inCount := 0 } })

/-- The clearing of the mix alarm (R103). -/
def clearAlarm (s : State) : State :=
  raise .mixCleared { s with gas := { s.gas with alarm := .clear, outCount := 0, inCount := 0 } }

/-- A manifold reading as it is delivered (R36, R101). -/
structure Delivery where
  c : Nat
  o : Nat
  methaneFault : Bool
  oxygenFault : Bool
  time : Nat
  deriving DecidableEq, Repr

/-- Whether a reading is out (R101). -/
def readingOut (l : Limits) (d : Delivery) : Bool :=
  d.methaneFault || d.oxygenFault || d.c < l.aFloor || l.aO2 < d.o

/-- The mix alarm takes a reading (R102, R103, R105). -/
def alarmTakes (out : Bool) (s : State) : State :=
  match s.gas.alarm with
  | .clear =>
    if !out then { s with gas := { s.gas with outCount := 0 } }
    else if s.gas.limits.alarmCount ≤ s.gas.outCount + 1 then raiseAlarm .readings s
    else { s with gas := { s.gas with outCount := s.gas.outCount + 1 } }
  | .raised _ =>
    if out then { s with gas := { s.gas with inCount := 0 } }
    else if s.gas.limits.alarmCount ≤ s.gas.inCount + 1 then clearAlarm s
    else { s with gas := { s.gas with inCount := s.gas.inCount + 1 } }

/-- The manifold watch takes a reading (R104): a good one renews the reference and arms the watch. -/
def watchTakes (d : Delivery) (s : State) : State :=
  if d.methaneFault || d.oxygenFault then s
  else { s with gas := { s.gas with watchRef := d.time, watch := .armed } }

/-- The fixed gas band (R106): 20.0 % methane. -/
def gasBand : Nat := 200

/-- The gas-band count takes a reading (R106). -/
def bandTakes (d : Delivery) (s : State) : State :=
  if d.methaneFault || gasBand ≤ d.c then { s with gas := { s.gas with bandCount := 0 } }
  else if s.gas.bandCount = 0 then { s with gas := { s.gas with bandCount := 1 } }
  else requestGasBand { s with gas := { s.gas with bandCount := 0 } }

/-- A manifold reading delivered to the monitor (R101): the alarm, the watch and the gas band each take
it. -/
def deliver (d : Delivery) (s : State) : State :=
  bandTakes d (watchTakes d (alarmTakes (readingOut s.gas.limits d) s))

/-- Whether the manifold watch has reached its expiry: ARMED, and 60 s past its reference (R104). -/
def watchExpired (s : State) : Bool := s.gas.watch == .armed && s.gas.watchRef + 60 ≤ s.elapsed

/-- The slots that a key release returns to AUTO and closes: MANUAL and locked (R88). -/
def releasedByKey (s : State) (i : SlotIdx) : Bool := inManual s i && locked s i

/-- The key release (R88). -/
def keyRelease (s : State) : State :=
  let sel := releasedByKey s
  let roster := Table.tabulate fun i =>
    if sel i then { s.plan.roster.get i with mode := .auto } else s.plan.roster.get i
  closeSlots sel { s with plan := { s.plan with roster := roster } }

end Sys2Proof.Machine
end

