-- ==== Sys2Proof/Machine/Scanner.lean ====
section
/-! DEFINITION. The Field Scanner (02_field_line_and_borehole_readings.md): the poll cycle, replies and
misses, reading records, the yield estimate, and what a reported position does to its valve (R78). -/

namespace Sys2Proof.Machine

/-! ## The poll cycle (R23, R24) -/

/-- The poll of a head, its orders read as it is sent (R24). The manifold head is sent 0 and closed. -/
def pollOf (s : State) : HeadAddr → Poll
  | .manifold => { head := .manifold, commanded := 0, drainOpen := false }
  | .slot i =>
    { head := .slot i
      commanded := (valveOf s i).commanded
      drainOpen :=
        isPurgeSlot s i && (s.proc.state == .purging || s.proc.state == .suspendedPurging) }

/-- A poll sent, with what is left of the cycle's list after it. -/
def sendPoll (h : HeadAddr) (rest : List HeadAddr) (s : State) : State :=
  { s with scanner := { s.scanner with poll := some (pollOf s h), remaining := rest } }

/-- The slots of a new cycle's list after the manifold head: those in service, in ascending order. -/
def cycleSlots (s : State) : List HeadAddr := (allSlots.filter (inService s)).map .slot

/-- The start of a cycle: a new list is formed and its first entry, the manifold head, is polled. -/
def startCycle (s : State) : State := sendPoll .manifold (cycleSlots s) s

/-- The next poll of the cycle: entries no longer in service are skipped, and when the list is used up
the next cycle starts. -/
def nextPoll : List HeadAddr → State → State
  | [], s => startCycle s
  | .manifold :: rest, s => sendPoll .manifold rest s
  | .slot i :: rest, s => if inService s i then sendPoll (.slot i) rest s else nextPoll rest s

/-- The poll that follows when a poll stops being outstanding (R22). -/
def sendNext (s : State) : State := nextPoll s.scanner.remaining s

/-! ## Clamps and reading records (R28 to R32, R36) -/

/-- The maximum flow at a head (R28). -/
def HeadAddr.maxFlow : HeadAddr → Nat
  | .manifold => 1200000
  | .slot _ => 20000

/-- A reply's values clamped to their maxima (R28). -/
def HeadReply.clamp (r : HeadReply) (h : HeadAddr) : HeadReply :=
  { r with
    c := min 1000 r.c
    o := min 250 r.o
    q := min h.maxFlow r.q
    pressure := min 20000 r.pressure
    position := min 100 r.position }

/-- An empty reading record (R29). -/
def emptyRecord : ReadingRecord :=
  { methane := none, oxygen := none, flow := none, pressure := none, position := none, drainOpen := none,
    faults := none }

/-- A value renewed when it is good, kept with its time otherwise. -/
def renew (good : Bool) (value now : Nat) (old : Option Stamped) : Option Stamped :=
  if good then some { value := value, time := now } else old

/-- A slot's record after a taken reply: c, o and q are taken when not faulted (R30) and the reply is not
draining (R31); pressure and position always (R32). -/
def ReadingRecord.take (now : Nat) (r : HeadReply) (rec : ReadingRecord) : ReadingRecord :=
  { methane := renew (!r.drainOpen && !r.faults.methane) r.c now rec.methane
    oxygen := renew (!r.drainOpen && !r.faults.oxygen) r.o now rec.oxygen
    flow := renew (!r.drainOpen && !r.faults.flow) r.q now rec.flow
    pressure := some { value := r.pressure, time := now }
    position := some { value := r.position, time := now }
    drainOpen := some r.drainOpen
    faults := some r.faults }

/-- The manifold's record after a taken reply (R36): the drain state, the position and the valve fault
flag of the reply are not used. -/
def ManifoldRecord.take (now : Nat) (r : HeadReply) (rec : ManifoldRecord) : ManifoldRecord :=
  { methane := renew (!r.faults.methane) r.c now rec.methane
    oxygen := renew (!r.faults.oxygen) r.o now rec.oxygen
    flow := renew (!r.faults.flow) r.q now rec.flow
    pressure := some { value := r.pressure, time := now }
    faults := some { r.faults with valve := false } }

/-! ## The yield estimate (R34, R35) -/

/-- The new estimate from the old one, a measured flow and a measured opening (R35). -/
def blendYield (old q p : Nat) : Nat := max 1 ((3 * old + min 20000 (q * 100 / p)) / 4)

/-- Whether a reply updates its slot's yield estimate (R34; the slot is in service). -/
def HeadReply.updatesYield (r : HeadReply) : Bool := !r.drainOpen && !r.faults.flow && 10 ≤ r.position

/-- The roster record after the update. -/
def Roster.updateYield (r : HeadReply) (x : Roster) : Roster :=
  if r.updatesYield then { x with yieldEst := x.yieldEst.map fun y => blendYield y r.q r.position } else x

/-! ## A reported position at the Valve Motion Controller (R78) -/

/-- Whether a reported position completes a valve's move: MOVING, and within 2 of the commanded
position. -/
def Valve.completes (p : Nat) (v : Valve) : Bool :=
  v.isMoving && p ≤ v.commanded + 2 && v.commanded ≤ p + 2

/-- A valve record after a reported position. -/
def Valve.report (p : Nat) (v : Valve) : Valve :=
  { v with reported := some p, state := if v.completes p then .atRest else v.state }

/-- The completion of a retirement (R17). -/
def retireDone (i : SlotIdx) (s : State) : State :=
  setValve i restedValve
    (setRecord i none
      (setHead i none
        (setRoster i
          { s.plan.roster.get i with lifecycle := .retired, yieldEst := none, commissioned := none } s)))

/-- Steps 1 and 2 of R78: the reported position set and, when it completes the move, the zone tested for
issue. -/
def takePosition (i : SlotIdx) (p : Nat) (s : State) : State :=
  let t := setValve i ((valveOf s i).report p) s
  if (valveOf s i).completes p then issueZone (zoneAt s i) t else t

/-- The steps of R78 in their order: the position set and the move completed, the valve fault, the
completion of a retirement. The seal of a settling test (R131) stands after step 2: DEDUCED, log entry
4. -/
def reportPosition (i : SlotIdx) (p : Nat) (fault : Bool) (s : State) : State :=
  let t := takePosition i p s
  let t := if p ≤ 2 then sealSlot i t else t
  let t := if fault then stickAndIssue i t else t
  if lifecycleOf t i == .retiring && p ≤ 2 then retireDone i t else t

/-! ## Replies and misses (R25, R26) -/

/-- A reply taken from a slot's head. A slot no longer in service is not updated (R33). -/
def takeSlotReply (i : SlotIdx) (r : HeadReply) (s : State) : State :=
  if inService s i then
    let t := setHead i (some freshHead) s
    let t := setRecord i (some (((s.scanner.records.get i).getD emptyRecord).take s.elapsed r)) t
    let t := setRoster i ((s.plan.roster.get i).updateYield r) t
    reportPosition i r.position r.faults.valve t
  else s

/-- A reply taken from the manifold head, delivered to the Gas Limit Monitor (R36). -/
def takeManifoldReply (r : HeadReply) (s : State) : State :=
  deliver
    { c := r.c, o := r.o, methaneFault := r.faults.methane, oxygenFault := r.faults.oxygen,
      time := s.elapsed }
    { s with
      scanner :=
        { s.scanner with manifoldHead := freshHead, manifold := s.scanner.manifold.take s.elapsed r } }

/-- A taken reply, after the clamp of R28. -/
def takeReply (h : HeadAddr) (r : HeadReply) (s : State) : State :=
  match h with
  | .manifold => takeManifoldReply (r.clamp h) s
  | .slot i => takeSlotReply i (r.clamp h) s

/-- A head after a miss (R26). -/
def Head.miss (h : Head) : Head :=
  match h.state with
  | .silent => h
  | .responding =>
    if h.misses < 2 then { h with misses := h.misses + 1 } else { state := .silent, misses := 3 }

/-- Whether a miss makes a head SILENT. -/
def Head.fallsSilent (h : Head) : Bool := h.state == .responding && h.miss.state == .silent

/-- A miss of the polled head: the Procedure Controller is told when a slot's head becomes SILENT. -/
def missReply (h : HeadAddr) (s : State) : State :=
  match h with
  | .manifold =>
    raiseIf s.scanner.manifoldHead.fallsSilent .headSilent
      { s with scanner := { s.scanner with manifoldHead := s.scanner.manifoldHead.miss } }
  | .slot i =>
    match s.scanner.heads.get i with
    | none => s
    | some hd =>
      let t := setHead i (some hd.miss) s
      if hd.fallsSilent then dropSilent i (raise .headSilent t) else t

/-- The poll no longer outstanding. -/
def clearPoll (s : State) : State := { s with scanner := { s.scanner with poll := none } }

/-- Bytes that answer the outstanding poll: a reply is taken, anything else is a miss, and the next poll
is sent (R22, R25). With no poll outstanding they are discarded. -/
def fieldFrame (bytes : List Byte) (s : State) : State :=
  match s.scanner.poll with
  | none => s
  | some p =>
    match replyTo p.head bytes with
    | some r => sendNext (takeReply p.head r (clearPoll s))
    | none => sendNext (missReply p.head (clearPoll s))

/-- 250 ms without a complete reply (R22). -/
def pollMissed (s : State) : State :=
  match s.scanner.poll with
  | none => s
  | some p => sendNext (missReply p.head (clearPoll s))

end Sys2Proof.Machine
end

