-- ==== Sys2Proof/Machine/Store.lean ====
section
/-! DEFINITION. The Plan Store (09_plan_store_and_start_up.md): the image captured, its bytes (R162,
R169), the end of a write, the judgement of the stored image, and the reset of the part. -/

namespace Sys2Proof.Machine

/-! ## The image and its bytes -/

/-- The image captured from the present state of its owners (R162). -/
def captureImage (s : State) : Image :=
  { plan := s.plan.active
    slots := s.plan.roster.map fun r => (r.lifecycle, r.yieldEst)
    mode := s.rounds.mode
    period := s.rounds.period
    windows := s.trips.windows.map (·.entry) }

/-- A slot's lifecycle and yield estimate in 3 bytes. -/
def lifeBytes (x : Lifecycle × Option Nat) : List Byte := x.1.byte :: leOpt 2 x.2

/-- The contents of an image as R169 encodes them, 1371 bytes. -/
def Image.bytes (img : Image) : List Byte :=
  img.plan.paramBytes ++ img.plan.zones.cells.flatMap ZoneRecord.bytes ++
    img.plan.entries.cells.flatMap SlotEntry.bytes ++ img.slots.cells.flatMap lifeBytes ++
    (img.mode.byte :: leBytes 2 img.period) ++ img.windows.cells.flatMap WindowEntry.bytes

/-- A value that all bits set marks as absent. -/
def optOf (absent v : Nat) : Option Nat := if v = absent then none else some v

/-- The zone record at an offset of image bytes. -/
def readZoneRecord (bs : List Byte) (at_ : Nat) : ZoneRecord :=
  { lastSlot := numAt bs at_ 1
    ramp := numAt bs (at_ + 1) 1
    stepping :=
      match numAt bs (at_ + 2) 1 with
      | 0 => .all
      | 2 => .two
      | 4 => .four
      | _ => .one
    tripLine := indexOf 4 (numAt bs (at_ + 3) 1) }

/-- The slot entry at an offset of image bytes. -/
def readSlotEntry (bs : List Byte) (at_ : Nat) : SlotEntry :=
  { priority := numAt bs at_ 1
    uMax := numAt bs (at_ + 1) 1
    uMin := numAt bs (at_ + 2) 1
    tag := (bs.drop (at_ + 6)).take (min 12 (numAt bs (at_ + 5) 1))
    staleOverride := optOf 0xFFFF (numAt bs (at_ + 3) 2) }

/-- The lifecycle and yield estimate at an offset of image bytes. -/
def readLife (bs : List Byte) (at_ : Nat) : Lifecycle × Option Nat :=
  ( match numAt bs at_ 1 with
    | 1 => .active
    | 2 => .retiring
    | 3 => .retired
    | _ => .vacant,
    optOf 0xFFFF (numAt bs (at_ + 1) 2) )

/-- The window entry at an offset of image bytes. -/
def readWindowEntry (bs : List Byte) (at_ : Nat) : WindowEntry :=
  { enabled := numAt bs at_ 1 == 1
    weekday := optOf 0xFF (numAt bs (at_ + 1) 1)
    hour := optOf 0xFF (numAt bs (at_ + 2) 1)
    minute := numAt bs (at_ + 3) 1
    duration := numAt bs (at_ + 4) 1
    zones := BitVec.ofNat 10 (numAt bs (at_ + 5) 2)
    ceiling := numAt bs (at_ + 7) 1 }

/-- What image bytes spell at the offsets of R169. -/
def readImage (bs : List Byte) : Image :=
  { plan :=
      { zoneCount := numAt bs 0 1
        staleLimit := numAt bs 1 2
        travelTimeout := numAt bs 3 1
        zones := Table.tabulate fun k => readZoneRecord bs (4 + 4 * k.val)
        entries := Table.tabulate fun i => readSlotEntry bs (44 + 18 * i.val) }
    slots := Table.tabulate fun i => readLife bs (1124 + 3 * i.val)
    mode := if numAt bs 1304 1 = 1 then .stepped else .cycling
    period := numAt bs 1305 2
    windows := Table.tabulate fun w => readWindowEntry bs (1307 + 8 * w.val) }

/-! ## The ranges of an image's fields (R164) -/

/-- Whether a number lies in a range. -/
def within (lo hi v : Nat) : Bool := lo ≤ v && v ≤ hi

/-- Whether a character is printable, 20h to 7Eh (R8). -/
def printable (b : Byte) : Bool := within 0x20 0x7E b.toNat

/-- Whether a tag may be stored: at most 12 printable characters (R8). -/
def tagOk (tag : List Byte) : Bool := tag.length ≤ 12 && tag.all printable

/-- Whether a zone record lies within its ranges (R5, R6). -/
def ZoneRecord.inRange (z : ZoneRecord) : Bool := within 0 255 z.lastSlot && within 1 100 z.ramp

/-- Whether a slot entry lies within its ranges (R7, R8). -/
def SlotEntry.inRange (e : SlotEntry) : Bool :=
  within 0 3 e.priority && within 0 100 e.uMax && within 0 50 e.uMin && tagOk e.tag &&
    e.staleOverride.all (within 20 600)

/-- Whether a plan lies within its ranges (R3 to R8). -/
def Plan.inRange (p : Plan) : Bool :=
  within 1 10 p.zoneCount && within 20 600 p.staleLimit && within 10 120 p.travelTimeout &&
    p.zones.cells.all ZoneRecord.inRange && p.entries.cells.all SlotEntry.inRange

/-- Whether a slot's stored lifecycle has its yield estimate exactly when it is in service, within
1..20 000 (R14). -/
def lifeInRange (x : Lifecycle × Option Nat) : Bool :=
  match x.2 with
  | some y => x.1.inService && within 1 20000 y
  | none => !x.1.inService

/-- Whether a window entry lies within its ranges (R119). -/
def WindowEntry.inRange (e : WindowEntry) : Bool :=
  e.weekday.all (within 1 7) && e.hour.all (within 0 23) && within 0 59 e.minute &&
    within 1 240 e.duration && within 0 100 e.ceiling

/-- Whether an image's plan is valid with its own Z and every field lies within the range of its owner
(the third test of R164). -/
def Image.inRange (img : Image) : Bool :=
  img.plan.inRange && img.plan.valid && img.slots.cells.all lifeInRange && within 5 600 img.period &&
    img.windows.cells.all WindowEntry.inRange

/-- The image that bytes encode, when they encode one within its ranges. -/
def decodeImage (bs : List Byte) : Option Image :=
  let img := readImage bs
  if img.bytes == bs && img.inRange then some img else none

/-- The judgement of the stored image at reset (R164): its mark, its CRC-32, its plan and its ranges. -/
def loadImage (st : StoredImage) : Option Image :=
  if st.markedValid && leBytes 4 (crc32 st.contents).toNat == st.crcBytes then decodeImage st.contents else none

/-! ## The store write (R161, R163) -/

/-- The acceptance of Store Plan: the image captured with its CRC-32, the stored image marked invalid,
WRITING for 3 s. -/
def beginWrite (s : State) : State :=
  { s with
    store :=
      { stored := { s.store.stored with markedValid := false }
        state := .writing (captureImage s) (crc32 (captureImage s).bytes) (s.elapsed + 3) } }

/-- The end of a write, verified against what is read back (R163); the CRC-32 of the captured image is
stored low byte first (R169). -/
def endWrite (crc : Word32) (readBack : List Byte) (s : State) : State :=
  let verified := crc32 readBack == crc
  let t :=
    { s with
      store :=
        { stored := { contents := readBack, crcBytes := leBytes 4 crc.toNat, markedValid := verified }
          state := .idle } }
  raise (if verified then .storeDone else .storeFailed) t

/-! ## Reset (R165) -/

/-- The roster record a slot is loaded with (R20). -/
def loadedRoster (x : Lifecycle × Option Nat) : Roster :=
  { lifecycle := x.1
    mode := .auto
    yieldEst := x.2
    commissioned := if x.1.inService then some 0 else none }

/-- A link after reset (R144): PlanLost is added when the load failed. -/
def resetLink (lost : Bool) : LinkState :=
  { linkAfterLostPlan with
    notices := if lost then Notice.restarted.bit ||| Notice.planLost.bit else Notice.restarted.bit }.refresh

/-- The Plan Table after the load (R19, R20). -/
def loadedPlan (img : Option Image) : PlanTable :=
  let plan := (img.map (·.plan)).getD defaultPlan
  { pendingPlan := plan
    active := plan
    adoption := .editable
    roster := (img.map fun m => m.slots.map loadedRoster).getD (Table.fill vacantRoster) }

/-- The Round Controller after the load (R40). -/
def loadedRounds (img : Option Image) : Rounds :=
  let mode := (img.map (·.mode)).getD .cycling
  let period := (img.map (·.period)).getD 30
  { State.reset.rounds with
    mode := mode
    period := period
    nextExpiry :=
      match mode with
      | .cycling => some period
      | .stepped => none }

/-- The Trip and Window Unit after the load (R111, R117, R119): the contacts stand as they are. -/
def loadedTrips (img : Option Image) (trips : TripUnit) : TripUnit :=
  { State.reset.trips with
    lines := trips.lines.map fun ln => { state := .armed, contactClosed := ln.contactClosed, inputActive := false }
    windows :=
      (img.map fun m => m.windows.map fun e => { entry := e, remaining := none }).getD
        (Table.fill defaultWindow) }

/-- Every block at its reset values over a loaded image, before the STARTUP closing and the first poll. -/
def loadedPart (img : Option Image) (s : State) : State :=
  let link := resetLink img.isNone
  let plan := loadedPlan img
  { State.reset with
    links := { station := link, safety := link, crew := link }
    plan := plan
    scanner :=
      { State.reset.scanner with
        poll := none
        heads := plan.roster.map fun r => if r.lifecycle.inService then some freshHead else none
        records := plan.roster.map fun r => if r.lifecycle.inService then some emptyRecord else none }
    rounds := loadedRounds img
    gas := { State.reset.gas with keySwitchClosed := s.gas.keySwitchClosed }
    trips := loadedTrips img s.trips
    store := { stored := s.store.stored, state := .idle }
    pending := s.pending }

/-- The reset of the part: the load (R164, R165), the allocator's entry into STARTUP (R48), and the first
cycle with its first poll (R39). What outlasts it is the stored image, the contacts and the key switch as
they stand, and the queue of commands. -/
def resetPart (s : State) : State := startCycle (closeManifold (loadedPart (loadImage s.store.stored) s))

end Sys2Proof.Machine
end

