-- ==== Sys2Proof/Machine/Edits.lean ====
section
/-! DEFINITION. What the Plan Table does with its requests (01_the_borehole_plan.md): the plan edits,
adoption, and the roster's lifecycle. Each request takes the state to the state and the answer. -/

namespace Sys2Proof.Machine

/-! ## The pending plan (R2 to R9) -/

/-- The pending plan replaced. -/
def setPending (p : Plan) (s : State) : State := { s with plan := { s.plan with pendingPlan := p } }

/-- An edit of the pending plan: refused with ADOPT_PENDING while ADOPTING (R2). -/
def whenEditable (s : State) (edit : State × Answer) : State × Answer :=
  match s.plan.adoption with
  | .editable => edit
  | .adopting => (s, refusal .adoptPending)

/-- Edit Plan Parameters (R3). -/
def editPlanParameters (p : Payload) (s : State) : State × Answer :=
  let limit := clampTo 20 600 (u16 p 0)
  let travel := clampTo 10 120 (u8 p 2)
  whenEditable s
    (setPending { s.plan.pendingPlan with staleLimit := limit, travelTimeout := travel } s,
      accepted (limit != u16 p 0 || travel != u8 p 2) (leBytes 2 limit ++ [byteOf travel]))

/-- Set Zone Count (R4). -/
def setZoneCount (p : Payload) (s : State) : State × Answer :=
  let z := clampTo 1 10 (u8 p 0)
  whenEditable s
    (setPending { s.plan.pendingPlan with zoneCount := z } s, accepted (z != u8 p 0) [byteOf z])

/-- The stepping count stored for a received value (R6). -/
def steppingFor (v : Nat) : Stepping :=
  if v = 0 then .all
  else if v = 1 then .one
  else if v ≤ 3 then .two
  else .four

/-- The zone record stored for the fields of Edit Zone (R5, R6). -/
def zoneFor (lastSlot ramp stepping trip : Nat) : ZoneRecord :=
  { lastSlot := lastSlot, ramp := clampTo 1 100 ramp, stepping := steppingFor stepping,
    tripLine := indexOf 4 trip }

/-- Edit Zone (R5, R6). -/
def editZone (p : Payload) (s : State) : State × Answer :=
  let z := zoneFor (u8 p 1) (u8 p 2) (u8 p 3) (u8 p 4)
  match zoneOfNum (u8 p 0) with
  | none => (s, refusal .badValue)
  | some k =>
    whenEditable s
      (setPending { s.plan.pendingPlan with zones := s.plan.pendingPlan.zones.set k z } s,
        accepted (z.ramp != u8 p 2 || z.stepping.number != u8 p 3 || lineNum z.tripLine != u8 p 4)
          (byteOf (k.val + 1) :: z.bytes))

/-- The tag bytes that Edit Slot Entry carries. -/
def tagSent (p : Payload) : List Byte := (p.drop 7).take (u8 p 6)

/-- The override stored for a received value: 0 means absent, another is clamped (R8, R167). -/
def overrideFor (v : Nat) : Option Nat := if v = 0 then none else some (clampTo 20 600 v)

/-- The slot entry stored for the fields of Edit Slot Entry (R7, R8). -/
def entryOf (p : Payload) : SlotEntry :=
  { priority := min 3 (u8 p 1)
    uMax := min 100 (u8 p 2)
    uMin := min 50 (u8 p 3)
    tag := tagSent p
    staleOverride := overrideFor (u16 p 4) }

/-- Whether the entry stored differs from the fields carried. -/
def entryClamped (p : Payload) : Bool :=
  (entryOf p).priority != u8 p 1 || (entryOf p).uMax != u8 p 2 || (entryOf p).uMin != u8 p 3 ||
    (entryOf p).staleOverride.getD 0 != u16 p 4

/-- Edit Slot Entry (R7, R8): the adoption state is tested before the tag (R2). -/
def editSlotEntry (p : Payload) (s : State) : State × Answer :=
  match slotOf (u8 p 0) with
  | none => (s, refusal .badValue)
  | some i =>
    whenEditable s
      (if tagOk (tagSent p) then
        (setPending { s.plan.pendingPlan with entries := s.plan.pendingPlan.entries.set i (entryOf p) } s,
          accepted (entryClamped p) ((entryOf p).echo i))
      else (s, refusal .badValue))

/-- Adopt Plan (R10). -/
def adoptPlan (s : State) : State × Answer :=
  whenEditable s
    (match s.plan.pendingPlan.firstOffending with
    | some k => (s, refusal .planInvalid [byteOf k])
    | none => ({ s with plan := { s.plan with adoption := .adopting } }, accepted false []))

/-- Discard Pending (R9). -/
def discardPending (s : State) : State × Answer :=
  whenEditable s (setPending s.plan.active s, accepted false [])

/-! ## The slot roster (R15 to R18) -/

/-- Commission Slot (R15). -/
def commissionSlot (p : Payload) (s : State) : State × Answer :=
  match slotOf (u8 p 0) with
  | none => (s, refusal .badValue)
  | some i =>
    if lifecycleOf s i == .vacant then
      let seed := clampTo 1 20000 (u16 p 1)
      let r : Roster :=
        { lifecycle := .active, mode := .auto, yieldEst := some seed, commissioned := some s.elapsed }
      let t := setRecord i (some emptyRecord) (setHead i (some freshHead) (setValve i restedValve (setRoster i r s)))
      ({ t with rounds := { t.rounds with staleMarks := t.rounds.staleMarks.set i false } },
        accepted (seed != u16 p 1) (byteOf (slotNum i) :: leBytes 2 seed))
    else (s, refusal .slotState)

/-- Retire Slot (R16). -/
def retireSlot (p : Payload) (s : State) : State × Answer :=
  match slotOf (u8 p 0) with
  | none => (s, refusal .badValue)
  | some i =>
    if lifecycleOf s i != .active then (s, refusal .slotState)
    else if inTestSet s i || isPurgeSlot s i then (s, refusal .slotInProcedure)
    else
      (closeSlot i (setRoster i { s.plan.roster.get i with lifecycle := .retiring, mode := .auto } s),
        accepted false [])

/-- Reclaim Slot (R18). -/
def reclaimSlot (p : Payload) (s : State) : State × Answer :=
  match slotOf (u8 p 0) with
  | none => (s, refusal .badValue)
  | some i =>
    if lifecycleOf s i != .retired then (s, refusal .slotState)
    else if !s.gas.keyActive then (s, refusal .keyRequired)
    else
      (setValve i restedValve (setRoster i { s.plan.roster.get i with lifecycle := .vacant } s),
        accepted false [])

/-! ## Store Plan (R161) -/

/-- Store Plan. -/
def storePlan (s : State) : State × Answer :=
  match s.store.state with
  | .idle => (beginWrite s, accepted false [1#8])
  | .writing _ _ _ => (s, refusal .storeBusy)

end Sys2Proof.Machine
end

