-- ==== Sys2Proof/Machine/Trips.lean ====
section
/-! DEFINITION. The Trip and Window Unit's own operations (06_trip_lines_and_quiet_windows.md): latching,
the drainage clock, and the quiet windows with their ceilings. -/

namespace Sys2Proof.Machine

/-- A trip line replaced. -/
def setLine (j : LineIdx) (ln : TripLine) (s : State) : State :=
  { s with trips := { s.trips with lines := s.trips.lines.set j ln } }

/-- A quiet window entry with its occurrence replaced. -/
def setWindowAt (w : WindowIdx) (v : Window) (s : State) : State :=
  { s with trips := { s.trips with windows := s.trips.windows.set w v } }

/-- Whether a latching line closes a slot: it is not VACANT and its zone in the active plan names the
line (R113). -/
def wiredTo (s : State) (j : LineIdx) (i : SlotIdx) : Bool :=
  lifecycleOf s i != .vacant && (zoneRecordAt s i).tripLine == some j

/-- An ARMED line latches (R113). -/
def latchLine (j : LineIdx) (s : State) : State :=
  let t := setLine j { s.trips.lines.get j with state := .latched } s
  raise .tripLatched (closeSlots (wiredTo t j) t)

/-! ## The drainage clock (R117) -/

/-- Whether the next advance of the clock is a minute rollover. -/
def Clock.atMinuteEnd (c : Clock) : Bool := c.second == 59

/-- The clock one second later. -/
def Clock.advance (c : Clock) : Clock :=
  if c.second < 59 then { c with second := c.second + 1 }
  else if c.minute < 59 then { c with second := 0, minute := c.minute + 1 }
  else if c.hour < 23 then { c with second := 0, minute := 0, hour := c.hour + 1 }
  else
    { weekday := if c.weekday < 7 then c.weekday + 1 else 1, hour := 0, minute := 0, second := 0 }

/-! ## Quiet windows (R119 to R123) -/

/-- Whether an entry matches a rollover (R121). -/
def WindowEntry.matchesTime (e : WindowEntry) (c : Clock) : Bool :=
  e.enabled && e.minute == c.minute && e.hour.all (· == c.hour) && e.weekday.all (· == c.weekday)

/-- An entry taken through a rollover (R121). -/
def Window.roll (c : Clock) (w : Window) : Window :=
  if w.entry.matchesTime c then { w with remaining := some w.entry.duration }
  else { w with remaining := w.remaining.bind fun m => if m ≤ 1 then none else some (m - 1) }

/-- Whether a rollover opens an entry's occurrence. -/
def Window.opens (c : Clock) (w : Window) : Bool := w.remaining.isNone && (w.roll c).remaining.isSome

/-- Whether a rollover ends an entry's occurrence. -/
def Window.ends (c : Clock) (w : Window) : Bool := w.remaining.isSome && (w.roll c).remaining.isNone

/-- The ceilings of the active occurrences that name a zone. -/
def activeCeilings (ws : Table 8 Window) (k : ZoneIdx) : List Nat :=
  ((ws.indices fun w => w.remaining.isSome && w.entry.zones.getLsbD k.val).map fun w => (ws.get w).entry.ceiling)

/-- A zone's quiet ceiling: the lowest of them, none when there is none (R123). -/
def quietCeiling (ws : Table 8 Window) (k : ZoneIdx) : Option Nat := (activeCeilings ws k).min?

/-- The zone quiet ceilings derived again (R123). -/
def deriveCeilings (s : State) : State :=
  { s with trips := { s.trips with ceilings := Table.tabulate (quietCeiling s.trips.windows) } }

/-- Whether a rollover opens an occurrence of any entry. -/
def opensAny (c : Clock) (ws : Table 8 Window) : Bool := !(ws.indices (Window.opens c)).isEmpty

/-- Whether a rollover ends an occurrence of any entry. -/
def endsAny (c : Clock) (ws : Table 8 Window) : Bool := !(ws.indices (Window.ends c)).isEmpty

/-- Every entry taken through a rollover on its own (R121). -/
def rollEntries (c : Clock) (s : State) : State :=
  { s with trips := { s.trips with windows := s.trips.windows.map (Window.roll c) } }

/-- The completion of a rollover (R122): after an opening or an ending the ceilings are derived again and
WindowChange is noticed; after an opening one round is requested. -/
def completeRollover (opened ended : Bool) (s : State) : State :=
  if opened || ended then requestRoundIf opened (raise .windowChange (deriveCeilings s)) else s

/-- The table taken through a rollover, and its completion (R121, R122). -/
def rollWindows (c : Clock) (s : State) : State :=
  completeRollover (opensAny c s.trips.windows) (endsAny c s.trips.windows) (rollEntries c s)

end Sys2Proof.Machine
end

