-- ==== Sys2Proof/Machine/Control.lean ====
section
/-! DEFINITION. What the Round Controller, the Gas Limit Monitor and the Trip and Window Unit do with
their requests (chapters 3, 5 and 6). Each request takes the state to the state and the answer. -/

namespace Sys2Proof.Machine

/-! ## Rounds (R41, R43, R47) -/

/-- Set Capacity (R47): a lower capacity requests a round, which is to be the next round event. -/
def setCapacity (p : Payload) (s : State) : State × Answer :=
  let q := min 1200000 (u32 p 0)
  let t := { s with rounds := { s.rounds with capacity := q } }
  (if q < s.rounds.capacity then requestRoundAhead t else t,
    accepted (q != u32 p 0) (leBytes 4 q))

/-- The round mode a byte names (R167). -/
def modeOf (v : Nat) : Option RoundMode :=
  if v = 0 then some .cycling
  else if v = 1 then some .stepped
  else none

/-- The next expiry `period` seconds from now, in CYCLING only (R41, R43). -/
def expiryAfter (mode : RoundMode) (period now : Nat) : Option Nat :=
  match mode with
  | .cycling => some (now + period)
  | .stepped => none

/-- Set Round Mode (R41). -/
def setRoundMode (p : Payload) (s : State) : State × Answer :=
  let period := clampTo 5 600 (u16 p 1)
  match modeOf (u8 p 0) with
  | none => (s, refusal .badValue)
  | some mode =>
    ({ s with
        rounds :=
          { s.rounds with mode := mode, period := period, nextExpiry := expiryAfter mode period s.elapsed } },
      accepted (period != u16 p 1) (mode.byte :: leBytes 2 period))

/-- The data of the replies of Run Round and Release: the allocator state, whether an allocation was
computed, the round number (section 10.6). -/
def roundReply (computed : Bool) (s : State) : List Byte :=
  [s.rounds.allocator.byte, flagByte computed] ++ leBytes 4 (roundNumber s.rounds.computed)

/-- Run Round (R43). A round that Set Capacity requested comes first (R47). -/
def runRound (s : State) : State × Answer :=
  let t := roundEvent (roundsAhead s)
  let t :=
    { t with rounds := { t.rounds with nextExpiry := expiryAfter t.rounds.mode t.rounds.period t.elapsed } }
  (t, accepted false (roundReply (running s) t))

/-! ## The allocator (R50 to R54) -/

/-- The allocator state replaced. -/
def setAllocator (a : Allocator) (s : State) : State := { s with rounds := { s.rounds with allocator := a } }

/-- Hold (R50). -/
def hold (s : State) : State × Answer :=
  match s.rounds.allocator with
  | .running => (setAllocator .held s, accepted false [])
  | .startup | .held | .shutIn _ => (s, refusal .allocState)

/-- The catch-up round of a Release (R51): a round event at once, after which the missed flag is clear. -/
def catchUpRound (s : State) : State :=
  let t := roundEvent s
  { t with rounds := { t.rounds with missed := false } }

/-- A Release accepted: RUNNING, then the catch-up round when the missed flag is set; queued entries may
be issued after it, or as they stand when there is none (R51, R76). A round that Set Capacity requested
comes before the catch-up round, with the allocator as it was (R47). -/
def releaseNow (s : State) : State :=
  if s.rounds.missed then catchUpRound (setAllocator .running (roundsAhead s))
  else issueAll (setAllocator .running s)

/-- Release (R51). -/
def release (s : State) : State × Answer :=
  match s.rounds.allocator with
  | .startup | .held =>
    (releaseNow s, accepted false (roundReply s.rounds.missed (releaseNow s)))
  | .running | .shutIn _ => (s, refusal .allocState)

/-- Shut In (R52). -/
def shutIn (s : State) : State × Answer :=
  match s.rounds.allocator with
  | .shutIn _ => (setAllocator (.shutIn .commanded) s, accepted false [ShutCause.commanded.byte])
  | .startup | .running | .held => (enterShutIn .commanded s, accepted false [ShutCause.commanded.byte])

/-- Release Shut-In (R54). -/
def releaseShutIn (s : State) : State × Answer :=
  match s.rounds.allocator with
  | .shutIn _ => (setAllocator .held s, accepted false [])
  | .startup | .running | .held => (s, refusal .allocState)

/-! ## Limits and locks (R92 to R98) -/

/-- The limit block carried by Set Limits. -/
def limitsSent (p : Payload) : Limits :=
  { cFloor := u16 p 0, oCeil := u8 p 2, aFloor := u16 p 3, aO2 := u8 p 5, margin := u8 p 6,
    alarmCount := u8 p 7 }

/-- Set Limits (R92, R94). -/
def setLimits (p : Payload) (s : State) : State × Answer :=
  let l := clampLimits (limitsSent p)
  let t := { s with gas := { s.gas with limits := l } }
  (requestRoundIf (limitsTighten s.gas.alarm.isRaised s.gas.limits l) t,
    accepted (l != limitsSent p) (l.bytes ++ leBytes 2 t.gas.effectiveFloor))

/-- A slot lock placed or removed. -/
def setSlotLock (i : SlotIdx) (b : Bool) (s : State) : State :=
  { s with gas := { s.gas with slotLocks := s.gas.slotLocks.set i b } }

/-- A zone lock placed or removed. -/
def setZoneLock (k : ZoneIdx) (b : Bool) (s : State) : State :=
  { s with gas := { s.gas with zoneLocks := s.gas.zoneLocks.set k b } }

/-- Lock Slot (R96). -/
def lockSlot (p : Payload) (s : State) : State × Answer :=
  match slotOf (u8 p 0) with
  | none => (s, refusal .badValue)
  | some i => (closeSlot i (setSlotLock i true s), accepted false [])

/-- Unlock Slot (R98). -/
def unlockSlot (p : Payload) (s : State) : State × Answer :=
  match slotOf (u8 p 0) with
  | none => (s, refusal .badValue)
  | some i => (setSlotLock i false s, accepted false [])

/-- The slots that a zone's lock closes: those in its span that are not VACANT (R97). -/
def closedWithZone (s : State) (k : ZoneIdx) (i : SlotIdx) : Bool :=
  zoneAt s i == k && lifecycleOf s i != .vacant

/-- Lock Zone (R97). -/
def lockZone (p : Payload) (s : State) : State × Answer :=
  match zoneOfNum (u8 p 0) with
  | none => (s, refusal .badValue)
  | some k => (issueZone k (urgentClose (closedWithZone s k) (setZoneLock k true s)), accepted false [])

/-- Unlock Zone (R98). -/
def unlockZone (p : Payload) (s : State) : State × Answer :=
  match zoneOfNum (u8 p 0) with
  | none => (s, refusal .badValue)
  | some k => (setZoneLock k false s, accepted false [])

/-! ## Trip lines (R114) -/

/-- The trip line a payload names. -/
def lineOf (p : Payload) : Option LineIdx := indexOf 4 (u8 p 0)

/-- Re-arm (R114): refused with LINE_ACTIVE unless the line is ARMED already or its input is INACTIVE. -/
def reArm (p : Payload) (s : State) : State × Answer :=
  match lineOf p with
  | none => (s, refusal .badValue)
  | some j =>
    let ln := s.trips.lines.get j
    if ln.state == .armed then (s, accepted false ln.bytes)
    else if ln.inputActive then (s, refusal .lineActive ln.bytes)
    else
      let ln := { ln with state := .armed }
      (setLine j ln s, accepted false ln.bytes)

/-- Disarm (R114). -/
def disarm (p : Payload) (s : State) : State × Answer :=
  match lineOf p with
  | none => (s, refusal .badValue)
  | some j =>
    let ln := { s.trips.lines.get j with state := .disarmed }
    (setLine j ln s, accepted false ln.bytes)

/-! ## The drainage clock and the quiet windows (R118 to R120) -/

/-- The clock values that Set Clock carries. -/
def clockSent (p : Payload) : Clock := { weekday := u8 p 0, hour := u8 p 1, minute := u8 p 2, second := u8 p 3 }

/-- Whether clock values lie in the ranges of R117. -/
def Clock.inRange (c : Clock) : Bool :=
  within 1 7 c.weekday && within 0 23 c.hour && within 0 59 c.minute && within 0 59 c.second

/-- Set Clock (R118): a minute rollover that was due does not take place. -/
def setClock (p : Payload) (s : State) : State × Answer :=
  let c := clockSent p
  if c.inRange then
    ({ s with trips := { s.trips with clock := c, unset := false, rolloversDue := [] } },
      accepted false c.bytes)
  else (s, refusal .badValue)

/-- A weekday or hour as carried: FFh is ANY (R167). -/
def anyOf (v : Nat) : Option Nat := optOf 0xFF v

/-- The entry that Set Window stores for its fields, from offset 1 (R119). -/
def windowFor (p : Payload) : WindowEntry :=
  { enabled := u8 p 1 == 1
    weekday := anyOf (u8 p 2)
    hour := anyOf (u8 p 3)
    minute := u8 p 4
    duration := clampTo 1 240 (u8 p 5)
    zones := BitVec.ofNat 10 (u16 p 6)
    ceiling := min 100 (u8 p 8) }

/-- Whether the fields that are refused rather than clamped lie in their ranges (R119, R167). -/
def windowFieldsOk (p : Payload) : Bool :=
  u8 p 1 ≤ 1 && (windowFor p).weekday.all (within 1 7) && (windowFor p).hour.all (within 0 23) &&
    u8 p 4 ≤ 59 && u16 p 6 < 1024

/-- The end of an entry's active occurrence by an edit (R120), when it has one. -/
def windowEdited (wasActive : Bool) (s : State) : State :=
  if wasActive then raise .windowChange (deriveCeilings s) else s

/-- Set Window (R119, R120). -/
def setWindow (p : Payload) (s : State) : State × Answer :=
  match (indexOf 8 (u8 p 0) : Option WindowIdx) with
  | none => (s, refusal .badValue)
  | some w =>
    if windowFieldsOk p then
      let e := windowFor p
      let t := setWindowAt w { entry := e, remaining := none } s
      (windowEdited (s.trips.windows.get w).remaining.isSome t,
        accepted (e.duration != u8 p 5 || e.ceiling != u8 p 8) (byteOf (w.val + 1) :: e.bytes))
    else (s, refusal .badValue)

end Sys2Proof.Machine
end

