-- ==== Sys2Proof/Machine/Crew.lean ====
section
/-! DEFINITION. What the Valve Motion Controller and the Procedure Controller do with their requests
(chapters 4 and 7), and the three timers of a procedure. Each request takes the state to the state and
the answer. -/

namespace Sys2Proof.Machine

/-! ## Manual mode and valve faults (R84, R86, R87) -/

/-- A slot's mode replaced. -/
def setMode (i : SlotIdx) (m : Mode) (s : State) : State :=
  setRoster i { s.plan.roster.get i with mode := m } s

/-- Set Manual (R86). -/
def setManual (p : Payload) (s : State) : State × Answer :=
  match slotOf (u8 p 0) with
  | none => (s, refusal .badValue)
  | some i =>
    let setpoint := min 100 (u8 p 1)
    if lifecycleOf s i != .active then (s, refusal .slotState)
    else if inTestSet s i || isPurgeSlot s i then (s, refusal .slotInProcedure)
    else if (valveOf s i).isStuck then (s, refusal .valveFault)
    else if locked s i && !s.gas.keyActive then (s, refusal .keyRequired)
    else
      (setMode i (.manual setpoint) s,
        accepted (setpoint != u8 p 1) [byteOf (slotNum i), 1#8, byteOf setpoint])

/-- Clear Manual (R87). -/
def clearManual (p : Payload) (s : State) : State × Answer :=
  match slotOf (u8 p 0) with
  | none => (s, refusal .badValue)
  | some i =>
    if lifecycleOf s i != .active then (s, refusal .slotState)
    else (setMode i .auto s, accepted false [])

/-- Whether a slot's situation is the first of R84, in which its valve is closed again. -/
def closesOnClear (s : State) (i : SlotIdx) : Bool :=
  s.rounds.allocator == .startup || s.rounds.allocator.isShutIn || lifecycleOf s i == .retiring ||
    closedByLock s i || tripped s i || (inTestSet s i && testClosing s)

/-- A valve taken out of STUCK and held where it is: at its reported position, or at its commanded
position when it has reported none (R84). -/
def Valve.heldAtRest (v : Valve) : Valve :=
  match v.reported with
  | some p => { v with target := p, commanded := p, state := .atRest }
  | none => { v with target := v.commanded, state := .atRest }

/-- Clear Valve Fault (R84). -/
def clearValveFault (p : Payload) (s : State) : State × Answer :=
  match slotOf (u8 p 0) with
  | none => (s, refusal .badValue)
  | some i =>
    if !(valveOf s i).isStuck then (s, refusal .valveState)
    else if closesOnClear s i then
      (closeSlot i (setValve i { valveOf s i with state := .atRest } s), accepted false [])
    else (setValve i (valveOf s i).heldAtRest s, accepted false [])

/-! ## Build-up tests (R128, R129, R135, R136) -/

/-- The gathering window, in seconds (R128). -/
def gatheringSeconds : Nat := 20

/-- A place of a slot that has just joined the test set. -/
def newPlace (i : SlotIdx) : TestPlace := { slot := i, sealedMark := false, startPressure := none }

/-- The data of an accepted Begin Test's reply (section 10.6). -/
def beginTestReply (s : State) : List Byte :=
  [s.proc.state.byte, byteOf s.proc.testSet.length] ++ setSlots s.proc.testSet ++ leOpt 2 s.proc.duration ++
    leOpt 2 (secondsLeft s s.proc.gatherExpiry)

/-- Begin Test (R128). -/
def beginTest (p : Payload) (s : State) : State × Answer :=
  let d := clampTo 60 1800 (u16 p 1)
  match slotOf (u8 p 0) with
  | none => (s, refusal .badValue)
  | some i =>
    if s.proc.state != .idle then (s, refusal .procBusy)
    else if !fit s i then (s, refusal .slotUnfit)
    else
      let t :=
        setProc
          { s.proc with
            state := .gathering
            testSet := [newPlace i]
            duration := some d
            gatherExpiry := some (s.elapsed + gatheringSeconds)
            errorFlag := false }
          s
      (t, accepted (d != u16 p 1) (beginTestReply t))

/-- The data of an accepted Add Test Slot's reply (section 10.6). -/
def addTestReply (s : State) : List Byte :=
  byteOf s.proc.testSet.length :: setSlots s.proc.testSet ++ leOpt 2 (secondsLeft s s.proc.gatherExpiry)

/-- The gathering window restarted over a test set (R129). -/
def restartWindow (ts : List TestPlace) (s : State) : State :=
  setProc { s.proc with testSet := ts, gatherExpiry := some (s.elapsed + gatheringSeconds) } s

/-- Add Test Slot (R129). A slot joins at the end of the set, so that the eight set places of replies stand
in the order of joining, which no rule gives: DESIGN CHOICE, log entry 26. -/
def addTestSlot (p : Payload) (s : State) : State × Answer :=
  match slotOf (u8 p 0) with
  | none => (s, refusal .badValue)
  | some i =>
    if s.proc.state != .gathering then (s, refusal .notGathering)
    else if inTestSet s i then
      (restartWindow s.proc.testSet s, accepted false (addTestReply (restartWindow s.proc.testSet s)))
    else if 8 ≤ s.proc.testSet.length then (s, refusal .setFull)
    else if !fit s i then (s, refusal .slotUnfit)
    else
      let t := restartWindow (s.proc.testSet ++ [newPlace i]) s
      (t, accepted false (addTestReply t))

/-- Suspend Test (R135). -/
def suspendTest (s : State) : State × Answer :=
  if testClosing s then
    (setProc
        { s.proc with
          state := .suspended
          testSet := s.proc.testSet.map fun t => newPlace t.slot
          measureStart := none
          measureExpiry := none }
        s,
      accepted false [])
  else (s, refusal .notRunning)

/-- Resume Test (R136). -/
def resumeTest (s : State) : State × Answer :=
  match s.proc.state with
  | .suspended => (settle s, accepted false [])
  | .suspendedPurging => (s, refusal .procBusy)
  | .idle | .gathering | .settling | .measuring | .purging => (s, refusal .notSuspended)

/-! ## The water purge (R137) and the abort (R139) -/

/-- A purge begun: the state, the purge slot, its expiry, the error flag cleared, and the slot's queue
entry removed (R85, R137). -/
def startPurge (i : SlotIdx) (seconds : Nat) (s : State) : State :=
  let state : ProcState := if s.proc.state == .suspended then .suspendedPurging else .purging
  let t :=
    setProc
      { s.proc with
        state := state, purgeSlot := some i, purgeExpiry := some (s.elapsed + seconds), errorFlag := false }
      s
  issueZone (zoneAt s i) (removeEntries (fun j => j == i) t)

/-- Begin Purge (R137). -/
def beginPurge (p : Payload) (s : State) : State × Answer :=
  let seconds := clampTo 10 300 (u16 p 1)
  match slotOf (u8 p 0) with
  | none => (s, refusal .badValue)
  | some i =>
    if s.proc.state != .idle && s.proc.state != .suspended then (s, refusal .procBusy)
    else if lifecycleOf s i != .active || !headResponding s i then (s, refusal .slotUnfit)
    else if s.proc.state == .suspended && inTestSet s i then (s, refusal .slotInTest)
    else
      (startPurge i seconds s,
        accepted (seconds != u16 p 1)
          ([(startPurge i seconds s).proc.state.byte, byteOf (slotNum i)] ++ leBytes 2 seconds))

/-- The records of an abort: none but from SETTLING and MEASURING (R139). -/
def abortRecord (s : State) (t : TestPlace) : ResultRecord :=
  if s.proc.state == .measuring then
    { bareResult .aborted t with
      startPressure := t.startPressure
      endPressure := pressureOf s t.slot
      seconds := s.elapsed - s.proc.measureStart.getD s.elapsed }
  else bareResult .aborted t

/-- Abort Procedure (R139). -/
def abortProcedure (s : State) : State × Answer :=
  if s.proc.state == .idle then (s, refusal .notRunning)
  else
    let results :=
      if testClosing s then appendFor (abortRecord s) s.proc.testSet s.proc.results else s.proc.results
    (finishProcedure (setProc { s.proc with results := results } s), accepted false [])

/-! ## The timers of a procedure (R130, R134, R138) -/

/-- Whether a time limit that a state of the part holds has been reached. -/
def reached (s : State) (expiry : Option Nat) : Bool := expiry.any fun e => e ≤ s.elapsed

/-- The record of a completed measurement (R134, R142). -/
def completeRecord (s : State) (t : TestPlace) : ResultRecord :=
  let d := s.proc.duration.getD 0
  { slot := t.slot
    outcome := .complete
    startPressure := t.startPressure
    endPressure := pressureOf s t.slot
    seconds := d
    riseRate :=
      match t.startPressure, pressureOf s t.slot with
      | some start, some stop => some (riseRate start stop d)
      | _, _ => none }

/-- The completion of a test (R134). -/
def completeTest (s : State) : State :=
  finishProcedure (setProc { s.proc with results := appendFor (completeRecord s) s.proc.testSet s.proc.results } s)

/-- The end of a purge (R138): a suspended test keeps its set and D. -/
def endPurge (s : State) : State :=
  let state : ProcState := if s.proc.state == .suspendedPurging then .suspended else .idle
  raise .procedureDone (setProc { s.proc with state := state, purgeSlot := none, purgeExpiry := none } s)

end Sys2Proof.Machine
end

