-- ==== Sys2Proof/Machine/Reads.lean ====
section
/-! DEFINITION. The data of the read commands' replies (R110, R124, R143, R153 to R156, R168), each
answered whole from the state it is taken in, and the notice commands (R158). -/

namespace Sys2Proof.Machine

/-! ## Read Status (R153) -/

/-- A last good value in `k` bytes with its age in 4 bytes. -/
def valueAndAge (s : State) (k : Nat) (v : Option Stamped) : List Byte :=
  leOpt k (v.map (·.value)) ++ leOpt 4 (ageOf s v)

/-- A head state's byte and miss count, FFh each when there is none (section 10.5). -/
def headBytes : Option Head → List Byte
  | none => [0xFF#8, 0xFF#8]
  | some h =>
    [match h.state with
      | .responding => 0#8
      | .silent => 1#8,
      byteOf h.misses]

/-- A shut-in cause's byte, FFh when absent. -/
def Allocator.causeByte : Allocator → Byte
  | .shutIn c => c.byte
  | .startup | .running | .held => 0xFF#8

/-- The Round Controller's part of Read Status. -/
def roundStatus (s : State) : List Byte :=
  [s.rounds.allocator.byte, s.rounds.allocator.causeByte, flagByte s.rounds.missed, s.rounds.mode.byte] ++
    leBytes 2 s.rounds.period ++ leOpt 2 (secondsLeft s s.rounds.nextExpiry) ++
    leBytes 4 (roundNumber s.rounds.computed) ++ leBytes 4 s.rounds.capacity

/-- The allocation record's part of Read Status. -/
def recordStatus (r : Option AllocRecord) : List Byte :=
  flagByte r.isSome :: leOpt 4 (r.map fun x => roundNumber x.serial) ++ leOpt 4 (r.map (·.sumF)) ++
    leOpt 2 (r.bind AllocRecord.blend) ++ leOpt 1 (r.bind AllocRecord.oxygen) ++
    leOpt 4 (r.map AllocRecord.unused)

/-- The manifold's part of Read Status. Before the first manifold reply the fault flags are absent, and are
sent as FFh by R167 although section 10.5 has bit 3 always 0: DESIGN CHOICE, log entry 28. -/
def manifoldStatus (s : State) : List Byte :=
  let m := s.scanner.manifold
  headBytes (some s.scanner.manifoldHead) ++ valueAndAge s 2 m.methane ++ valueAndAge s 2 m.oxygen ++
    valueAndAge s 4 m.flow ++ valueAndAge s 2 m.pressure ++ [(m.faults.map FaultFlags.byte).getD 0xFF#8]

/-- The number of valves in a state, over all slots. -/
def valvesIn (s : State) (p : Valve → Bool) : Nat := allSlots.countP fun i => p (valveOf s i)

/-- An alarm state's byte. -/
def Alarm.byte : Alarm → Byte
  | .clear => 0#8
  | .raised _ => 1#8

/-- A store state's byte. -/
def StoreState.byte : StoreState → Byte
  | .idle => 0#8
  | .writing _ _ _ => 1#8

/-- An adoption state's byte. -/
def Adoption.byte : Adoption → Byte
  | .editable => 0#8
  | .adopting => 1#8

/-- The data of Read Status; the error flag is 00h clear and 01h set, which section 10.5 does not say: DESIGN
CHOICE, log entry 30. -/
def statusData (s : State) : List Byte :=
  [s.plan.adoption.byte] ++ roundStatus s ++ recordStatus s.rounds.record ++ manifoldStatus s ++
    [byteOf (valvesIn s fun v => v.state == .atRest), byteOf (valvesIn s Valve.isMoving),
      byteOf (valvesIn s Valve.isStuck), s.gas.alarm.byte] ++
    leBytes 2 s.gas.effectiveFloor ++ [flagByte s.gas.keyActive] ++ s.trips.lines.cells.flatMap TripLine.bytes ++
    s.trips.clock.bytes ++ [flagByte s.trips.unset, s.proc.state.byte, flagByte s.proc.errorFlag,
      s.store.state.byte] ++ leBytes 4 s.elapsed

/-! ## Read Slot (R154) -/

/-- The roster's part of Read Slot; what is absent is all bits set. -/
def rosterBytes (s : State) (r : Roster) : List Byte :=
  (match r.mode with
    | .auto => [r.lifecycle.byte, 0#8, 0xFF#8]
    | .manual setpoint => [r.lifecycle.byte, 1#8, byteOf setpoint]) ++
    leOpt 2 r.yieldEst ++ leOpt 4 (r.commissioned.map fun t => s.elapsed - t)

/-- The reading record's part of Read Slot; an absent record is a record with every entry absent. -/
def recordBytes (s : State) (rec : Option ReadingRecord) : List Byte :=
  let r := rec.getD emptyRecord
  valueAndAge s 2 r.methane ++ valueAndAge s 2 r.oxygen ++ valueAndAge s 2 r.flow ++
    valueAndAge s 2 r.pressure ++ valueAndAge s 1 r.position ++
    [(r.drainOpen.map flagByte).getD 0xFF#8, (r.faults.map FaultFlags.byte).getD 0xFF#8]

/-- The valve record's part of Read Slot. -/
def valveBytes (s : State) (v : Valve) : List Byte :=
  [byteOf v.target, byteOf v.commanded] ++ leOpt 1 v.reported ++
    match v.state with
    | .atRest => 0#8 :: leOpt 4 none
    | .moving start => 1#8 :: leBytes 4 (s.elapsed - start)
    | .stuck => 2#8 :: leOpt 4 none

/-- An entry's class byte. -/
def EntryKind.byte : EntryKind → Byte
  | .closing => 0#8
  | .opening _ _ => 1#8

/-- A slot's queue entry, if it has one. -/
def entryAt (s : State) (i : SlotIdx) : Option QueueEntry := (allEntries s).find? fun e => e.slot == i

/-- The lock byte: 01h slot, 02h zone, 03h both. -/
def lockByte (s : State) (i : SlotIdx) : Byte :=
  byteOf ((s.gas.slotLocks.get i).toNat + 2 * (zoneLocked s i).toNat)

/-- The procedure place byte: 01h test set, 02h purge slot. -/
def placeByte (s : State) (i : SlotIdx) : Byte :=
  if inTestSet s i then 1#8
  else if isPurgeSlot s i then 2#8
  else 0#8

/-- The data of Read Slot. -/
def slotData (s : State) (i : SlotIdx) : List Byte :=
  [byteOf (slotNum i)] ++ rosterBytes s (s.plan.roster.get i) ++ (s.plan.active.entries.get i).bytes ++
    (s.plan.pendingPlan.entries.get i).bytes ++ headBytes (s.scanner.heads.get i) ++
    recordBytes s (s.scanner.records.get i) ++ valveBytes s (valveOf s i) ++
    (match entryAt s i with
      | none => [0xFF#8, 0xFF#8]
      | some e => [e.kind.byte, byteOf e.position]) ++
    [lockByte s i, byteOf (lineNum (trippingLine s i)), placeByte s i,
      ((recordEntry s i).map AllocEntry.statusByte).getD 0xFF#8]

/-! ## Read Zone (R154) -/

/-- A queue entry in 7 bytes, the round number of a closing entry being all bits set. -/
def QueueEntry.bytes (e : QueueEntry) : List Byte :=
  [byteOf (slotNum e.slot), e.kind.byte, byteOf e.position] ++
    match e.kind with
    | .closing => leOpt 4 none
    | .opening round _ => leBytes 4 (roundNumber round)

/-- The data of Read Zone. -/
def zoneData (s : State) (k : ZoneIdx) : List Byte :=
  let active := s.plan.active.zones.get k
  let q := s.motion.queues.get k
  [byteOf (k.val + 1)] ++ s.plan.active.paramBytes ++ s.plan.pendingPlan.paramBytes ++ active.bytes ++
    (match s.plan.active.span k with
      | none => [0#8, 0#8]
      | some (a, b) => [byteOf a, byteOf b]) ++
    (s.plan.pendingPlan.zones.get k).bytes ++
    [byteOf (movingCount s k), flagByte (s.gas.zoneLocks.get k),
      (active.tripLine.map fun j => (s.trips.lines.get j).state.byte).getD 0xFF#8] ++
    leOpt 1 (s.trips.ceilings.get k) ++ [byteOf q.length] ++ (q.take 30).flatMap QueueEntry.bytes

/-! ## Read Round Summary (R155, R168) -/

/-- The record's entries for the slots from a first slot on, in ascending slot order. -/
def entriesFrom (r : AllocRecord) (first : SlotIdx) : List (SlotIdx × AllocEntry) :=
  allSlots.filterMap fun i => if first ≤ i then (r.entries.get i).map fun e => (i, e) else none

/-- The entries a page gives and those it leaves: at most `n`, within `room` bytes (R168). -/
def fillPage : Nat → Nat → List (SlotIdx × AllocEntry) → List (SlotIdx × AllocEntry) × List (SlotIdx × AllocEntry)
  | 0, _, es => ([], es)
  | _ + 1, _, [] => ([], [])
  | n + 1, room, (i, e) :: es =>
    let size := (e.bytes i).length
    if size ≤ room then
      let rest := fillPage n (room - size) es
      ((i, e) :: rest.1, rest.2)
    else ([], (i, e) :: es)

/-- The data of Read Round Summary. -/
def summaryData (s : State) (first : SlotIdx) : List Byte :=
  match s.rounds.record with
  | none => [0#8]
  | some r =>
    let page := fillPage 40 215 (entriesFrom r first)
    [1#8] ++ leBytes 4 (roundNumber r.serial) ++ leBytes 4 r.capacity ++ leBytes 2 r.floor ++
      leBytes 1 r.ceiling ++ leBytes 4 r.sumF ++ leBytes 4 r.sumM ++ leBytes 4 r.sumX ++ leOpt 2 r.blend ++
      leOpt 1 r.oxygen ++ leBytes 4 r.unused ++
      [byteOf page.1.length, ((page.2.head?).map fun x => byteOf (slotNum x.1)).getD 0#8] ++
      page.1.flatMap fun x => x.2.bytes x.1

/-! ## Read Limits, Read Results and Read Windows (R110, R143, R124) -/

/-- A table of marks as a number, bit `k` for index `k`. -/
def maskOf {n : Nat} (t : Table n Bool) : Nat := t.cells.foldr (fun b acc => b.toNat + 2 * acc) 0

/-- An alarm cause's byte, FFh when absent. -/
def Alarm.causeByte : Alarm → Byte
  | .clear => 0xFF#8
  | .raised .readings => 0#8
  | .raised .noManifold => 1#8

/-- A manifold watch's byte. -/
def Watch.byte : Watch → Byte
  | .armed => 0#8
  | .spent => 1#8

/-- The data of Read Limits; the age is measured from the watch reference. -/
def limitsData (s : State) : List Byte :=
  let g := s.gas
  g.limits.bytes ++ leBytes 2 g.effectiveFloor ++
    [g.alarm.byte, g.alarm.causeByte, byteOf g.outCount, byteOf g.inCount, byteOf g.bandCount] ++
    leBytes 4 (s.elapsed - g.watchRef) ++ [g.watch.byte, flagByte g.keyActive] ++
    leBytes 8 (maskOf g.slotLocks) ++ leBytes 2 (maskOf g.zoneLocks)

/-- A place of the test set in 4 bytes; an unused place has slot 00h and its values absent (log entry
12). The sealed mark is 00h clear and 01h set, which section 10.5 does not say: DESIGN CHOICE, log entry
30. -/
def placeBytes : Option TestPlace → List Byte
  | none => [0#8, 0xFF#8, 0xFF#8, 0xFF#8]
  | some t => [byteOf (slotNum t.slot), flagByte t.sealedMark] ++ leOpt 2 t.startPressure

/-- A test outcome's byte. -/
def TestOutcome.byte : TestOutcome → Byte
  | .complete => 0#8
  | .noSeal => 1#8
  | .noReading => 2#8
  | .aborted => 3#8

/-- A rise rate as a signed 16-bit value, 8000h when absent (section 10.5). -/
def rateBytes : Option Int → List Byte
  | none => leBytes 2 0x8000
  | some r => leBytes 2 (BitVec.ofInt 16 r).toNat

/-- A result record in 10 bytes; an unused place has every value absent (log entry 12). -/
def resultBytes : Option ResultRecord → List Byte
  | none => List.replicate 8 0xFF#8 ++ rateBytes none
  | some r =>
    [byteOf (slotNum r.slot), r.outcome.byte] ++ leOpt 2 r.startPressure ++ leOpt 2 r.endPressure ++
      leBytes 2 r.seconds ++ rateBytes r.riseRate

/-- The seconds left to the gathering or the measuring expiry, in the states that hold one. -/
def testSecondsLeft (s : State) : Option Nat :=
  match s.proc.state with
  | .gathering => secondsLeft s s.proc.gatherExpiry
  | .measuring => secondsLeft s s.proc.measureExpiry
  | .idle | .settling | .suspended | .suspendedPurging | .purging => none

/-- The data of Read Results; the set places stand in the order of joining (log entry 26), and the error
flag is 00h clear and 01h set (DESIGN CHOICE, log entry 30). -/
def resultsData (s : State) : List Byte :=
  let p := s.proc
  [p.state.byte, byteOf p.testSet.length] ++ (List.range 8).flatMap (fun n => placeBytes p.testSet[n]?) ++
    leOpt 2 p.duration ++ leOpt 2 (testSecondsLeft s) ++
    [(p.purgeSlot.map fun i => byteOf (slotNum i)).getD 0#8] ++ leOpt 2 (secondsLeft s p.purgeExpiry) ++
    [flagByte p.errorFlag, byteOf p.results.length] ++ (List.range 16).flatMap fun n => resultBytes p.results[n]?

/-- The data of Read Windows. -/
def windowsData (s : State) : List Byte :=
  s.trips.clock.bytes ++ [flagByte s.trips.unset] ++
    s.trips.windows.cells.flatMap (fun w => w.entry.bytes ++ [byteOf (w.remaining.getD 0)]) ++
    s.trips.ceilings.cells.flatMap (leOpt 1)

/-! ## The reads as requests -/

/-- A read: the data it gives, and no change of state (R156). -/
def readReply (data : List Byte) (s : State) : State × Answer := (s, accepted false data)

/-- Read Slot as a request. -/
def readSlot (p : Payload) (s : State) : State × Answer :=
  match slotOf (u8 p 0) with
  | none => (s, refusal .badValue)
  | some i => readReply (slotData s i) s

/-- Read Zone as a request. -/
def readZone (p : Payload) (s : State) : State × Answer :=
  match zoneOfNum (u8 p 0) with
  | none => (s, refusal .badValue)
  | some k => readReply (zoneData s k) s

/-- Read Round Summary as a request. -/
def readRoundSummary (p : Payload) (s : State) : State × Answer :=
  match slotOf (u8 p 0) with
  | none => (s, refusal .badValue)
  | some i => readReply (summaryData s i) s

/-- Read Notices (R158): the link's set, mask and line. -/
def readNotices (l : Link) (s : State) : State × Answer :=
  let k := s.links.get l
  readReply (leBytes 2 k.notices.toNat ++ leBytes 2 k.mask.toNat ++ [flagByte k.attention]) s

/-! ## The notice commands (R158) -/

/-- One link's state replaced. -/
def setLink (l : Link) (k : LinkState) (s : State) : State := { s with links := s.links.set l k }

/-- The flag numbers that Clear Notices carries. -/
def flagsNamed (p : Payload) : List Nat := (p.drop 1).map (·.toNat)

/-- The flag set of flag numbers, without the spare. -/
def flagSetOf (ns : List Nat) : Word16 := (ns.foldl (fun w n => w ||| (1#16 <<< n)) 0#16) &&& knownFlags

/-- Clear Notices (R158): a flag number above 15 is refused and clears nothing (R167). -/
def clearNotices (l : Link) (p : Payload) (s : State) : State × Answer :=
  if (flagsNamed p).all (· ≤ 15) then
    let k := s.links.get l
    let left := k.notices &&& ~~~(flagSetOf (flagsNamed p))
    (setLink l { k with notices := left }.refresh s, accepted false (leBytes 2 left.toNat))
  else (s, refusal .badValue)

/-- Set Notice Mask (R158): the mask is replaced whole, stored without the spare. -/
def setNoticeMask (l : Link) (p : Payload) (s : State) : State × Answer :=
  let mask := BitVec.ofNat 16 (u16 p 0) &&& knownFlags
  (setLink l { s.links.get l with mask := mask }.refresh s, accepted false (leBytes 2 mask.toNat))

end Sys2Proof.Machine
end

