-- ==== Sys2Proof/Machine/Requests.lean ====
section
/-! DEFINITION. A request taken on a link (08_master_links.md): the four checks of R149, the authority
table of R151, the hand-over to the owning block, and the reply that is then in progress. -/

namespace Sys2Proof.Machine

/-! ## The checks of R149 -/

/-- The payload length a command calls for (section 10.2); the payloads of varying length give it by their
own length field (R167). -/
def payloadLength (p : Payload) : Command → Nat
  | .readStatus => 0
  | .readSlot => 1
  | .readZone => 1
  | .readRoundSummary => 1
  | .readLimits => 0
  | .readResults => 0
  | .readWindows => 0
  | .readNotices => 0
  | .clearNotices => 1 + u8 p 0
  | .setNoticeMask => 2
  | .editPlanParameters => 3
  | .setZoneCount => 1
  | .editZone => 5
  | .editSlotEntry => 7 + u8 p 6
  | .adoptPlan => 0
  | .discardPending => 0
  | .setCapacity => 4
  | .setRoundMode => 3
  | .runRound => 0
  | .setClock => 4
  | .setWindow => 9
  | .storePlan => 0
  | .setLimits => 8
  | .lockSlot => 1
  | .unlockSlot => 1
  | .lockZone => 1
  | .unlockZone => 1
  | .hold => 0
  | .release => 0
  | .shutIn => 0
  | .releaseShutIn => 0
  | .reArm => 1
  | .disarm => 1
  | .abortProcedure => 0
  | .commissionSlot => 3
  | .retireSlot => 1
  | .reclaimSlot => 1
  | .setManual => 2
  | .clearManual => 1
  | .clearValveFault => 1
  | .beginTest => 3
  | .addTestSlot => 1
  | .suspendTest => 0
  | .resumeTest => 0
  | .beginPurge => 3

/-- Whether a payload has the length its command calls for. -/
def lengthOk (c : Command) (p : Payload) : Bool := p.length == payloadLength p c

/-- The authority table (R151). -/
def permitted : Command → Link → Bool
  | .readStatus, _ => true
  | .readSlot, _ => true
  | .readZone, _ => true
  | .readRoundSummary, _ => true
  | .readLimits, _ => true
  | .readResults, _ => true
  | .readWindows, _ => true
  | .readNotices, _ => true
  | .clearNotices, _ => true
  | .setNoticeMask, _ => true
  | .editPlanParameters, l => l == .station
  | .setZoneCount, l => l == .station
  | .editZone, l => l == .station
  | .editSlotEntry, l => l == .station
  | .adoptPlan, l => l == .station
  | .discardPending, l => l == .station
  | .setCapacity, l => l == .station
  | .setRoundMode, l => l == .station
  | .runRound, l => l == .station
  | .setClock, l => l == .station
  | .setWindow, l => l == .station
  | .storePlan, l => l == .station
  | .setLimits, l => l == .safety
  | .lockSlot, l => l == .safety
  | .unlockSlot, l => l == .safety
  | .lockZone, l => l == .safety
  | .unlockZone, l => l == .safety
  | .hold, l => l == .safety
  | .release, l => l == .safety
  | .shutIn, l => l == .safety
  | .releaseShutIn, l => l == .safety
  | .reArm, l => l == .safety
  | .disarm, l => l == .safety
  | .abortProcedure, l => l == .safety || l == .crew
  | .commissionSlot, l => l == .crew
  | .retireSlot, l => l == .crew
  | .reclaimSlot, l => l == .crew
  | .setManual, l => l == .crew
  | .clearManual, l => l == .crew
  | .clearValveFault, l => l == .crew
  | .beginTest, l => l == .crew
  | .addTestSlot, l => l == .crew
  | .suspendTest, l => l == .station || l == .crew
  | .resumeTest, l => l == .crew
  | .beginPurge, l => l == .crew

/-- What the first payload byte of a command numbers, for the fourth check of R149. -/
inductive Numbered where
  | slot
  | zone
  | neither
  deriving DecidableEq, Repr

/-- The commands whose first byte is a slot number or a zone number (section 10.2). -/
def Numbered.ofCommand : Command → Numbered
  | .readSlot => .slot
  | .readRoundSummary => .slot
  | .editSlotEntry => .slot
  | .lockSlot => .slot
  | .unlockSlot => .slot
  | .commissionSlot => .slot
  | .retireSlot => .slot
  | .reclaimSlot => .slot
  | .setManual => .slot
  | .clearManual => .slot
  | .clearValveFault => .slot
  | .beginTest => .slot
  | .addTestSlot => .slot
  | .beginPurge => .slot
  | .readZone => .zone
  | .editZone => .zone
  | .lockZone => .zone
  | .unlockZone => .zone
  | .readStatus => .neither
  | .readLimits => .neither
  | .readResults => .neither
  | .readWindows => .neither
  | .readNotices => .neither
  | .clearNotices => .neither
  | .setNoticeMask => .neither
  | .editPlanParameters => .neither
  | .setZoneCount => .neither
  | .adoptPlan => .neither
  | .discardPending => .neither
  | .setCapacity => .neither
  | .setRoundMode => .neither
  | .runRound => .neither
  | .setClock => .neither
  | .setWindow => .neither
  | .storePlan => .neither
  | .setLimits => .neither
  | .hold => .neither
  | .release => .neither
  | .shutIn => .neither
  | .releaseShutIn => .neither
  | .reArm => .neither
  | .disarm => .neither
  | .abortProcedure => .neither
  | .suspendTest => .neither
  | .resumeTest => .neither

/-- Whether the slot or zone number a command carries lies in 1..60 or 1..10. -/
def numbersOk (c : Command) (p : Payload) : Bool :=
  match Numbered.ofCommand c with
  | .slot => (slotOf (u8 p 0)).isSome
  | .zone => (zoneOfNum (u8 p 0)).isSome
  | .neither => true

/-- The refusal of the first check that fails, of length, authority and numbers. -/
def checkRequest (l : Link) (c : Command) (p : Payload) : Option Result :=
  if !lengthOk c p then some .badLength
  else if !permitted c l then some .notPermitted
  else if !numbersOk c p then some .badValue
  else none

/-! ## Taking a request (R147, R148) -/

/-- The link's receiver HUNTING, as it is after a frame's last byte. -/
def huntAgain (l : Link) (s : State) : State := setLink l { s.links.get l with receiver := .hunting } s

/-- The reply to a request in progress on a link. -/
def answer (l : Link) (code : Byte) (a : Answer) (s : State) : State :=
  setLink l { s.links.get l with request := some { code := code, result := a.result, data := a.data } } s

/-- Whether a request is in progress on a link. -/
def busy (l : Link) (s : State) : Bool := (s.links.get l).request.isSome

/-- A command's request taken on a link: discarded while another is in progress (R148); refused by the
first check that fails; otherwise decided whole by the owning block before its reply. -/
def takeRequest (l : Link) (c : Command) (p : Payload) (own : State → State × Answer) (s : State) : State :=
  let t := huntAgain l s
  if busy l s then t
  else
    match checkRequest l c p with
    | some r => answer l (codeOf c) (refusal r) t
    | none => answer l (codeOf c) (own t).2 (own t).1

/-- A request whose code names no command: refused with UNKNOWN_COMMAND (R149, first check). -/
def takeUnknown (l : Link) (code : Byte) (s : State) : State :=
  let t := huntAgain l s
  if busy l s then t else answer l code (refusal .unknownCommand) t

/-- What the owning block does with each command. -/
def owner (l : Link) (p : Payload) : Command → State → State × Answer
  | .readStatus => fun s => readReply (statusData s) s
  | .readSlot => readSlot p
  | .readZone => readZone p
  | .readRoundSummary => readRoundSummary p
  | .readLimits => fun s => readReply (limitsData s) s
  | .readResults => fun s => readReply (resultsData s) s
  | .readWindows => fun s => readReply (windowsData s) s
  | .readNotices => readNotices l
  | .clearNotices => clearNotices l p
  | .setNoticeMask => setNoticeMask l p
  | .editPlanParameters => editPlanParameters p
  | .setZoneCount => setZoneCount p
  | .editZone => editZone p
  | .editSlotEntry => editSlotEntry p
  | .adoptPlan => adoptPlan
  | .discardPending => discardPending
  | .setCapacity => setCapacity p
  | .setRoundMode => setRoundMode p
  | .runRound => runRound
  | .setClock => setClock p
  | .setWindow => setWindow p
  | .storePlan => storePlan
  | .setLimits => setLimits p
  | .lockSlot => lockSlot p
  | .unlockSlot => unlockSlot p
  | .lockZone => lockZone p
  | .unlockZone => unlockZone p
  | .hold => hold
  | .release => release
  | .shutIn => shutIn
  | .releaseShutIn => releaseShutIn
  | .reArm => reArm p
  | .disarm => disarm p
  | .abortProcedure => abortProcedure
  | .commissionSlot => commissionSlot p
  | .retireSlot => retireSlot p
  | .reclaimSlot => reclaimSlot p
  | .setManual => setManual p
  | .clearManual => clearManual p
  | .clearValveFault => clearValveFault p
  | .beginTest => beginTest p
  | .addTestSlot => addTestSlot p
  | .suspendTest => suspendTest
  | .resumeTest => resumeTest
  | .beginPurge => beginPurge p

/-! ## Frames at a receiver (R145 to R148) -/

/-- A request frame's code and payload taken on a link (R149). -/
def takeCode (l : Link) (code : Byte) (p : Payload) (s : State) : State :=
  match commandOf code with
  | none => takeUnknown l code s
  | some c => takeRequest l c p (owner l p c) s

/-- A complete frame checked (R147): taken as a request when its CRC matches, discarded when it does not;
in either case the receiver is HUNTING after it. -/
def checkFrame (l : Link) (body : List Byte) (crc : Nat) (s : State) : State :=
  match body with
  | _ :: code :: p => if crc == (crc16 body).toNat then takeCode l code p s else huntAgain l s
  | _ => huntAgain l s

/-- Bytes assembled after a sync byte; complete frames are checked, and discarded when their sync byte
came while a request was in progress (R145, R148). -/
def assemble (l : Link) (late : Bool) (bytes : List Byte) (s : State) : State :=
  match bytes with
  | [] => setLink l { s.links.get l with receiver := .assembling late [] } s
  | len :: _ =>
    if len.toNat < 1 || 250 < len.toNat then huntAgain l s
    else if bytes.length < len.toNat + 3 then
      setLink l { s.links.get l with receiver := .assembling late bytes } s
    else if late then huntAgain l s
    else checkFrame l (bytes.take (len.toNat + 1)) (numAt bytes (len.toNat + 1) 2) s

/-- One byte at a link's receiver (R145). -/
def receiveByte (l : Link) (b : Byte) (s : State) : State :=
  match (s.links.get l).receiver with
  | .hunting => if b = linkSync then assemble l (busy l s) [] s else s
  | .assembling late bytes => assemble l late (bytes ++ [b]) s

/-- A gap of more than 50 ms at a link's receiver (R146). -/
def receiveGap (l : Link) (s : State) : State :=
  match (s.links.get l).receiver with
  | .hunting => s
  | .assembling _ _ => huntAgain l s

/-- The last byte of a link's reply sent (R148). -/
def finishReply (l : Link) (s : State) : State :=
  match (s.links.get l).request with
  | none => s
  | some r => setLink l { s.links.get l with request := none, sent := r.frame } s

end Sys2Proof.Machine
end

