-- ==== Sys2Proof/Machine/CrewLink.lean ====
section
/-! DEFINITION. The meanings of the crew link's commands (R151). -/

namespace Sys2Proof.Machine

/-- COMMISSION_SLOT (R15). -/
def execCommissionSlot (l : Link) (p : Payload) (s : State) : Host.Outcome State Fault Refusal :=
  .next (takeRequest l .commissionSlot p (owner l p .commissionSlot) s)

/-- RETIRE_SLOT (R16). -/
def execRetireSlot (l : Link) (p : Payload) (s : State) : Host.Outcome State Fault Refusal :=
  .next (takeRequest l .retireSlot p (owner l p .retireSlot) s)

/-- RECLAIM_SLOT (R18). -/
def execReclaimSlot (l : Link) (p : Payload) (s : State) : Host.Outcome State Fault Refusal :=
  .next (takeRequest l .reclaimSlot p (owner l p .reclaimSlot) s)

/-- SET_MANUAL (R86). -/
def execSetManual (l : Link) (p : Payload) (s : State) : Host.Outcome State Fault Refusal :=
  .next (takeRequest l .setManual p (owner l p .setManual) s)

/-- CLEAR_MANUAL (R87). -/
def execClearManual (l : Link) (p : Payload) (s : State) : Host.Outcome State Fault Refusal :=
  .next (takeRequest l .clearManual p (owner l p .clearManual) s)

/-- CLEAR_VALVE_FAULT (R84). -/
def execClearValveFault (l : Link) (p : Payload) (s : State) : Host.Outcome State Fault Refusal :=
  .next (takeRequest l .clearValveFault p (owner l p .clearValveFault) s)

/-- BEGIN_TEST (R128). -/
def execBeginTest (l : Link) (p : Payload) (s : State) : Host.Outcome State Fault Refusal :=
  .next (takeRequest l .beginTest p (owner l p .beginTest) s)

/-- ADD_TEST_SLOT (R129). -/
def execAddTestSlot (l : Link) (p : Payload) (s : State) : Host.Outcome State Fault Refusal :=
  .next (takeRequest l .addTestSlot p (owner l p .addTestSlot) s)

/-- SUSPEND_TEST (R135), from the station link or the crew link. -/
def execSuspendTest (l : Link) (p : Payload) (s : State) : Host.Outcome State Fault Refusal :=
  .next (takeRequest l .suspendTest p (owner l p .suspendTest) s)

/-- RESUME_TEST (R136). -/
def execResumeTest (l : Link) (p : Payload) (s : State) : Host.Outcome State Fault Refusal :=
  .next (takeRequest l .resumeTest p (owner l p .resumeTest) s)

/-- BEGIN_PURGE (R137). -/
def execBeginPurge (l : Link) (p : Payload) (s : State) : Host.Outcome State Fault Refusal :=
  .next (takeRequest l .beginPurge p (owner l p .beginPurge) s)

end Sys2Proof.Machine
end

