-- ==== Sys2Proof/Machine/Events.lean ====
section
/-! DEFINITION. The meanings of reset, of the requests that blocks send to the Round Controller, of the
timers, and of the contact inputs. An event whose condition does not hold when its turn comes does not
take place (log entry 5). -/

namespace Sys2Proof.Machine

/-- RESET (R165). -/
def execReset (s : State) : Host.Outcome State Fault Refusal := .next (resetPart s)

/-! ## Round events -/

/-- ROUND_TIMER_EXPIRY (R42): the next expiry follows P seconds after this one. A round that Set Capacity
requested comes first (R47). -/
def execRoundTimerExpiry (s : State) : Host.Outcome State Fault Refusal :=
  match s.rounds.nextExpiry with
  | none => .next s
  | some e =>
    if e ≤ s.elapsed then
      let t := roundEvent (roundsAhead s)
      .next { t with rounds := { t.rounds with nextExpiry := some (e + t.rounds.period) } }
    else .next s

/-- REQUESTED_ROUND (R46): one request is taken as one round event. -/
def execRequestedRound (s : State) : Host.Outcome State Fault Refusal := .next (takeRequested s)

/-- GAS_BAND_REQUEST (R53): one request is taken. -/
def execGasBandRequest (s : State) : Host.Outcome State Fault Refusal :=
  match s.rounds.gasBandRequests with
  | 0 => .next s
  | n + 1 =>
    let t := { s with rounds := { s.rounds with gasBandRequests := n } }
    if s.rounds.allocator.isShutIn then .next t else .next (enterShutIn .gasBand t)

/-! ## Timers -/

/-- TRAVEL_TIMEOUT of a slot's move (R79). -/
def execTravelTimeout (i : SlotIdx) (s : State) : Host.Outcome State Fault Refusal :=
  if moveExpired s i then .next (stickAndIssue i s) else .next s

/-- MANIFOLD_WATCH_EXPIRY (R104). -/
def execManifoldWatchExpiry (s : State) : Host.Outcome State Fault Refusal :=
  if watchExpired s then
    let t := { s with gas := { s.gas with watch := .spent } }
    if s.gas.alarm.isRaised then .next t else .next (raiseAlarm .noManifold t)
  else .next s

/-- DRAINAGE_CLOCK_ADVANCE (R117): one second of the elapsed-seconds count and of the drainage clock; at
the advance from second 59 a minute rollover is due, unless the unset flag is set. -/
def execDrainageClockAdvance (s : State) : Host.Outcome State Fault Refusal :=
  let c := s.trips.clock.advance
  let due := if s.trips.clock.atMinuteEnd && !s.trips.unset then s.trips.rolloversDue ++ [c] else s.trips.rolloversDue
  .next
    { s with
      elapsed := s.elapsed + 1
      trips := { s.trips with clock := c, rolloversDue := due } }

/-- MINUTE_ROLLOVER (R121, R122): the rollover that is due is taken through the window table. -/
def execMinuteRollover (s : State) : Host.Outcome State Fault Refusal :=
  match s.trips.rolloversDue with
  | [] => .next s
  | c :: rest => .next (rollWindows c { s with trips := { s.trips with rolloversDue := rest } })

/-- GATHERING_WINDOW_EXPIRY (R130). -/
def execGatheringWindowExpiry (s : State) : Host.Outcome State Fault Refusal :=
  if s.proc.state == .gathering && reached s s.proc.gatherExpiry then .next (settle s) else .next s

/-- MEASURING_EXPIRY (R134). -/
def execMeasuringExpiry (s : State) : Host.Outcome State Fault Refusal :=
  if s.proc.state == .measuring && reached s s.proc.measureExpiry then .next (completeTest s) else .next s

/-- PURGE_EXPIRY (R138). -/
def execPurgeExpiry (s : State) : Host.Outcome State Fault Refusal :=
  if (s.proc.state == .purging || s.proc.state == .suspendedPurging) && reached s s.proc.purgeExpiry then
    .next (endPurge s)
  else .next s

/-- STORE_WRITE_END (R163): the write is verified against what is read back. -/
def execStoreWriteEnd (readBack : List Byte) (s : State) : Host.Outcome State Fault Refusal :=
  match s.store.state with
  | .idle => .next s
  | .writing _ crc writeEnd => if writeEnd ≤ s.elapsed then .next (endWrite crc readBack s) else .next s

/-! ## Contact inputs (R108, R112) -/

/-- KEY_INPUT_CHANGE (R108): the switch takes the condition given; the debounce runs while it differs from
the line. -/
def execKeyInputChange (closed : Bool) (s : State) : Host.Outcome State Fault Refusal :=
  .next { s with gas := { s.gas with keySwitchClosed := closed } }

/-- KEY_DEBOUNCE_EXPIRY (R108): the line follows the switch; going inactive is a key release (R88). -/
def execKeyDebounceExpiry (s : State) : Host.Outcome State Fault Refusal :=
  if s.gas.keySwitchClosed == s.gas.keyActive then .next s
  else
    let t := { s with gas := { s.gas with keyActive := s.gas.keySwitchClosed } }
    if s.gas.keySwitchClosed then .next t else .next (keyRelease t)

/-- TRIP_CONTACT_CHANGE (R112). -/
def execTripContactChange (j : LineIdx) (closed : Bool) (s : State) : Host.Outcome State Fault Refusal :=
  .next (setLine j { s.trips.lines.get j with contactClosed := closed } s)

/-- TRIP_DEBOUNCE_EXPIRY (R112, R113): the debounced input follows the contact; an ARMED line latches when
it becomes ACTIVE. -/
def execTripDebounceExpiry (j : LineIdx) (s : State) : Host.Outcome State Fault Refusal :=
  let ln := s.trips.lines.get j
  if ln.contactClosed == ln.inputActive then .next s
  else
    let t := setLine j { ln with inputActive := ln.contactClosed } s
    if ln.contactClosed && ln.state == .armed then .next (latchLine j t) else .next t

end Sys2Proof.Machine
end

