-- ==== Sys2Proof/Machine/Field.lean ====
section
/-! DEFINITION. The meanings of the field line's commands (R22, R25). -/

namespace Sys2Proof.Machine

/-- FIELD_REPLY_TAKEN (R25): bytes that answer the outstanding poll; a valid reply of the polled head is
taken, and any other makes the poll a miss. -/
def execFieldReplyTaken (frame : List Byte) (s : State) : Host.Outcome State Fault Refusal :=
  .next (fieldFrame frame s)

/-- FIELD_REPLY_REJECTED (R25): bytes that answer the outstanding poll; a wrong check, length or address
makes the poll a miss. -/
def execFieldReplyRejected (frame : List Byte) (s : State) : Host.Outcome State Fault Refusal :=
  .next (fieldFrame frame s)

/-- POLL_TIMEOUT (R22). -/
def execPollTimeout (s : State) : Host.Outcome State Fault Refusal := .next (pollMissed s)

/-- STRAY_FIELD_BYTES (R22): bytes that came while no poll was outstanding are discarded, credited to no
head and counted as no miss. -/
def execStrayFieldBytes (_ : List Byte) (s : State) : Host.Outcome State Fault Refusal := .next s

end Sys2Proof.Machine
end

