-- ==== Sys2Proof/Machine/Framing.lean ====
section
/-! DEFINITION. The meanings of the commands that are bytes and frames at a link (R145 to R149) and of
the sending of a reply (R148). A command that brings a whole frame is decided by what the frame holds. -/

namespace Sys2Proof.Machine

/-- A whole frame at a link, its sync byte among its bytes: discarded while a request is in progress (R148),
checked otherwise (R147). -/
def wholeFrame (l : Link) (body : List Byte) (crc : Word16) (s : State) : State :=
  if busy l s then huntAgain l s else checkFrame l body crc.toNat s

/-- UNKNOWN_COMMAND (R149): a request whose code names no command is refused; a code that names one is
that command's request. -/
def execUnknownCommand (l : Link) (code : Byte) (p : Payload) (s : State) : Host.Outcome State Fault Refusal :=
  .next (takeCode l code p s)

/-- FRAME_CRC_DISCARD (R147). -/
def execFrameCrcDiscard (l : Link) (body : List Byte) (crc : Word16) (s : State) : Host.Outcome State Fault Refusal :=
  .next (wholeFrame l body crc s)

/-- FRAME_LENGTH_DISCARD (R145): a length byte at the receiver. -/
def execFrameLengthDiscard (l : Link) (len : Byte) (s : State) : Host.Outcome State Fault Refusal :=
  .next (receiveByte l len s)

/-- INTER_BYTE_GAP_TIMEOUT (R146). -/
def execInterByteGapTimeout (l : Link) (s : State) : Host.Outcome State Fault Refusal := .next (receiveGap l s)

/-- FRAME_DURING_REPLY (R148): a frame whose sync byte came before the last byte of the reply had been sent is
discarded however it ends, whether or not the reply has been sent by the time it is complete. -/
def execFrameDuringReply (l : Link) (_body : List Byte) (_crc : Word16) (s : State) :
    Host.Outcome State Fault Refusal :=
  .next (huntAgain l s)

/-- REPLY_SENT (R148). -/
def execReplySent (l : Link) (s : State) : Host.Outcome State Fault Refusal := .next (finishReply l s)

/-- LINK_BYTE_RECEIVED (R145). -/
def execLinkByteReceived (l : Link) (b : Byte) (s : State) : Host.Outcome State Fault Refusal :=
  .next (receiveByte l b s)

end Sys2Proof.Machine
end

