-- ==== Sys2Proof/Machine/Reading.lean ====
section
/-! DEFINITION. The meanings of the read commands and the notice commands, which every link may send
(08_master_links.md, sections 8.5 and 8.6). -/

namespace Sys2Proof.Machine

/-- READ_STATUS (R153): the status of every block at one instant. -/
def execReadStatus (l : Link) (p : Payload) (s : State) : Host.Outcome State Fault Refusal :=
  .next (takeRequest l .readStatus p (owner l p .readStatus) s)

/-- READ_SLOT (R154): one slot's roster, entries, readings, valve, locks, trip, procedure place, standing. -/
def execReadSlot (l : Link) (p : Payload) (s : State) : Host.Outcome State Fault Refusal :=
  .next (takeRequest l .readSlot p (owner l p .readSlot) s)

/-- READ_ZONE (R154): one zone's records in both plans, its queue, lock, trip line and ceiling. -/
def execReadZone (l : Link) (p : Payload) (s : State) : Host.Outcome State Fault Refusal :=
  .next (takeRequest l .readZone p (owner l p .readZone) s)

/-- READ_ROUND_SUMMARY (R155): one page of the allocation record. -/
def execReadRoundSummary (l : Link) (p : Payload) (s : State) : Host.Outcome State Fault Refusal :=
  .next (takeRequest l .readRoundSummary p (owner l p .readRoundSummary) s)

/-- READ_LIMITS (R110): the Gas Limit Monitor's state. -/
def execReadLimits (l : Link) (p : Payload) (s : State) : Host.Outcome State Fault Refusal :=
  .next (takeRequest l .readLimits p (owner l p .readLimits) s)

/-- READ_RESULTS (R143): the Procedure Controller's state and the results list. -/
def execReadResults (l : Link) (p : Payload) (s : State) : Host.Outcome State Fault Refusal :=
  .next (takeRequest l .readResults p (owner l p .readResults) s)

/-- READ_WINDOWS (R124): the drainage clock, the quiet windows and the ceilings. -/
def execReadWindows (l : Link) (p : Payload) (s : State) : Host.Outcome State Fault Refusal :=
  .next (takeRequest l .readWindows p (owner l p .readWindows) s)

/-- READ_NOTICES (R158): the link's notice set, mask and attention line. -/
def execReadNotices (l : Link) (p : Payload) (s : State) : Host.Outcome State Fault Refusal :=
  .next (takeRequest l .readNotices p (owner l p .readNotices) s)

/-- CLEAR_NOTICES (R158): the named flags leave the sending link's set. -/
def execClearNotices (l : Link) (p : Payload) (s : State) : Host.Outcome State Fault Refusal :=
  .next (takeRequest l .clearNotices p (owner l p .clearNotices) s)

/-- SET_NOTICE_MASK (R158): the sending link's mask is replaced whole. -/
def execSetNoticeMask (l : Link) (p : Payload) (s : State) : Host.Outcome State Fault Refusal :=
  .next (takeRequest l .setNoticeMask p (owner l p .setNoticeMask) s)

end Sys2Proof.Machine
end

