-- ==== Sys2Proof/Machine/Safety.lean ====
section
/-! DEFINITION. The meanings of the safety link's commands (R151). -/

namespace Sys2Proof.Machine

/-- SET_LIMITS (R92, R94). -/
def execSetLimits (l : Link) (p : Payload) (s : State) : Host.Outcome State Fault Refusal :=
  .next (takeRequest l .setLimits p (owner l p .setLimits) s)

/-- LOCK_SLOT (R96). -/
def execLockSlot (l : Link) (p : Payload) (s : State) : Host.Outcome State Fault Refusal :=
  .next (takeRequest l .lockSlot p (owner l p .lockSlot) s)

/-- UNLOCK_SLOT (R98). -/
def execUnlockSlot (l : Link) (p : Payload) (s : State) : Host.Outcome State Fault Refusal :=
  .next (takeRequest l .unlockSlot p (owner l p .unlockSlot) s)

/-- LOCK_ZONE (R97). -/
def execLockZone (l : Link) (p : Payload) (s : State) : Host.Outcome State Fault Refusal :=
  .next (takeRequest l .lockZone p (owner l p .lockZone) s)

/-- UNLOCK_ZONE (R98). -/
def execUnlockZone (l : Link) (p : Payload) (s : State) : Host.Outcome State Fault Refusal :=
  .next (takeRequest l .unlockZone p (owner l p .unlockZone) s)

/-- HOLD (R50). -/
def execHold (l : Link) (p : Payload) (s : State) : Host.Outcome State Fault Refusal :=
  .next (takeRequest l .hold p (owner l p .hold) s)

/-- RELEASE (R51). -/
def execRelease (l : Link) (p : Payload) (s : State) : Host.Outcome State Fault Refusal :=
  .next (takeRequest l .release p (owner l p .release) s)

/-- SHUT_IN (R52). -/
def execShutIn (l : Link) (p : Payload) (s : State) : Host.Outcome State Fault Refusal :=
  .next (takeRequest l .shutIn p (owner l p .shutIn) s)

/-- RELEASE_SHUT_IN (R54). -/
def execReleaseShutIn (l : Link) (p : Payload) (s : State) : Host.Outcome State Fault Refusal :=
  .next (takeRequest l .releaseShutIn p (owner l p .releaseShutIn) s)

/-- RE_ARM (R114). -/
def execReArm (l : Link) (p : Payload) (s : State) : Host.Outcome State Fault Refusal :=
  .next (takeRequest l .reArm p (owner l p .reArm) s)

/-- DISARM (R114). -/
def execDisarm (l : Link) (p : Payload) (s : State) : Host.Outcome State Fault Refusal :=
  .next (takeRequest l .disarm p (owner l p .disarm) s)

/-- ABORT_PROCEDURE (R139), from the safety link or the crew link. -/
def execAbortProcedure (l : Link) (p : Payload) (s : State) : Host.Outcome State Fault Refusal :=
  .next (takeRequest l .abortProcedure p (owner l p .abortProcedure) s)

end Sys2Proof.Machine
end

