-- ==== Sys2Proof/Machine/Station.lean ====
section
/-! DEFINITION. The meanings of the station link's commands (R151). -/

namespace Sys2Proof.Machine

/-- EDIT_PLAN_PARAMETERS (R3). -/
def execEditPlanParameters (l : Link) (p : Payload) (s : State) : Host.Outcome State Fault Refusal :=
  .next (takeRequest l .editPlanParameters p (owner l p .editPlanParameters) s)

/-- SET_ZONE_COUNT (R4). -/
def execSetZoneCount (l : Link) (p : Payload) (s : State) : Host.Outcome State Fault Refusal :=
  .next (takeRequest l .setZoneCount p (owner l p .setZoneCount) s)

/-- EDIT_ZONE (R5, R6). -/
def execEditZone (l : Link) (p : Payload) (s : State) : Host.Outcome State Fault Refusal :=
  .next (takeRequest l .editZone p (owner l p .editZone) s)

/-- EDIT_SLOT_ENTRY (R7, R8). -/
def execEditSlotEntry (l : Link) (p : Payload) (s : State) : Host.Outcome State Fault Refusal :=
  .next (takeRequest l .editSlotEntry p (owner l p .editSlotEntry) s)

/-- ADOPT_PLAN (R10). -/
def execAdoptPlan (l : Link) (p : Payload) (s : State) : Host.Outcome State Fault Refusal :=
  .next (takeRequest l .adoptPlan p (owner l p .adoptPlan) s)

/-- DISCARD_PENDING (R9). -/
def execDiscardPending (l : Link) (p : Payload) (s : State) : Host.Outcome State Fault Refusal :=
  .next (takeRequest l .discardPending p (owner l p .discardPending) s)

/-- SET_CAPACITY (R47). -/
def execSetCapacity (l : Link) (p : Payload) (s : State) : Host.Outcome State Fault Refusal :=
  .next (takeRequest l .setCapacity p (owner l p .setCapacity) s)

/-- SET_ROUND_MODE (R41). -/
def execSetRoundMode (l : Link) (p : Payload) (s : State) : Host.Outcome State Fault Refusal :=
  .next (takeRequest l .setRoundMode p (owner l p .setRoundMode) s)

/-- RUN_ROUND (R43). -/
def execRunRound (l : Link) (p : Payload) (s : State) : Host.Outcome State Fault Refusal :=
  .next (takeRequest l .runRound p (owner l p .runRound) s)

/-- SET_CLOCK (R118). -/
def execSetClock (l : Link) (p : Payload) (s : State) : Host.Outcome State Fault Refusal :=
  .next (takeRequest l .setClock p (owner l p .setClock) s)

/-- SET_WINDOW (R119, R120). -/
def execSetWindow (l : Link) (p : Payload) (s : State) : Host.Outcome State Fault Refusal :=
  .next (takeRequest l .setWindow p (owner l p .setWindow) s)

/-- STORE_PLAN (R161). -/
def execStorePlan (l : Link) (p : Payload) (s : State) : Host.Outcome State Fault Refusal :=
  .next (takeRequest l .storePlan p (owner l p .storePlan) s)

end Sys2Proof.Machine
end

