-- ==== Sys2Proof/Machine/Dispatch.lean ====
section
/-! DEFINITION. The dispatch of every command to its meaning, one arm per row of spec/opcode_table.json. -/

namespace Sys2Proof.Machine

/-- A command's effect on everything but the queue of waiting commands. -/
def exec (i : Instr) (s : State) : Host.Outcome State Fault Refusal :=
  match i with
  | .reset => Sys2Proof.Machine.execReset s
  | .readStatus l p => Sys2Proof.Machine.execReadStatus l p s
  | .readSlot l p => Sys2Proof.Machine.execReadSlot l p s
  | .readZone l p => Sys2Proof.Machine.execReadZone l p s
  | .readRoundSummary l p => Sys2Proof.Machine.execReadRoundSummary l p s
  | .readLimits l p => Sys2Proof.Machine.execReadLimits l p s
  | .readResults l p => Sys2Proof.Machine.execReadResults l p s
  | .readWindows l p => Sys2Proof.Machine.execReadWindows l p s
  | .readNotices l p => Sys2Proof.Machine.execReadNotices l p s
  | .clearNotices l p => Sys2Proof.Machine.execClearNotices l p s
  | .setNoticeMask l p => Sys2Proof.Machine.execSetNoticeMask l p s
  | .editPlanParameters l p => Sys2Proof.Machine.execEditPlanParameters l p s
  | .setZoneCount l p => Sys2Proof.Machine.execSetZoneCount l p s
  | .editZone l p => Sys2Proof.Machine.execEditZone l p s
  | .editSlotEntry l p => Sys2Proof.Machine.execEditSlotEntry l p s
  | .adoptPlan l p => Sys2Proof.Machine.execAdoptPlan l p s
  | .discardPending l p => Sys2Proof.Machine.execDiscardPending l p s
  | .setCapacity l p => Sys2Proof.Machine.execSetCapacity l p s
  | .setRoundMode l p => Sys2Proof.Machine.execSetRoundMode l p s
  | .runRound l p => Sys2Proof.Machine.execRunRound l p s
  | .setClock l p => Sys2Proof.Machine.execSetClock l p s
  | .setWindow l p => Sys2Proof.Machine.execSetWindow l p s
  | .storePlan l p => Sys2Proof.Machine.execStorePlan l p s
  | .setLimits l p => Sys2Proof.Machine.execSetLimits l p s
  | .lockSlot l p => Sys2Proof.Machine.execLockSlot l p s
  | .unlockSlot l p => Sys2Proof.Machine.execUnlockSlot l p s
  | .lockZone l p => Sys2Proof.Machine.execLockZone l p s
  | .unlockZone l p => Sys2Proof.Machine.execUnlockZone l p s
  | .hold l p => Sys2Proof.Machine.execHold l p s
  | .release l p => Sys2Proof.Machine.execRelease l p s
  | .shutIn l p => Sys2Proof.Machine.execShutIn l p s
  | .releaseShutIn l p => Sys2Proof.Machine.execReleaseShutIn l p s
  | .reArm l p => Sys2Proof.Machine.execReArm l p s
  | .disarm l p => Sys2Proof.Machine.execDisarm l p s
  | .abortProcedure l p => Sys2Proof.Machine.execAbortProcedure l p s
  | .commissionSlot l p => Sys2Proof.Machine.execCommissionSlot l p s
  | .retireSlot l p => Sys2Proof.Machine.execRetireSlot l p s
  | .reclaimSlot l p => Sys2Proof.Machine.execReclaimSlot l p s
  | .setManual l p => Sys2Proof.Machine.execSetManual l p s
  | .clearManual l p => Sys2Proof.Machine.execClearManual l p s
  | .clearValveFault l p => Sys2Proof.Machine.execClearValveFault l p s
  | .beginTest l p => Sys2Proof.Machine.execBeginTest l p s
  | .addTestSlot l p => Sys2Proof.Machine.execAddTestSlot l p s
  | .suspendTest l p => Sys2Proof.Machine.execSuspendTest l p s
  | .resumeTest l p => Sys2Proof.Machine.execResumeTest l p s
  | .beginPurge l p => Sys2Proof.Machine.execBeginPurge l p s
  | .unknownCommand l code p => Sys2Proof.Machine.execUnknownCommand l code p s
  | .frameCrcDiscard l body crc => Sys2Proof.Machine.execFrameCrcDiscard l body crc s
  | .frameLengthDiscard l len => Sys2Proof.Machine.execFrameLengthDiscard l len s
  | .interByteGapTimeout l => Sys2Proof.Machine.execInterByteGapTimeout l s
  | .frameDuringReply l body crc => Sys2Proof.Machine.execFrameDuringReply l body crc s
  | .replySent l => Sys2Proof.Machine.execReplySent l s
  | .fieldReplyTaken frame => Sys2Proof.Machine.execFieldReplyTaken frame s
  | .fieldReplyRejected frame => Sys2Proof.Machine.execFieldReplyRejected frame s
  | .pollTimeout => Sys2Proof.Machine.execPollTimeout s
  | .strayFieldBytes bytes => Sys2Proof.Machine.execStrayFieldBytes bytes s
  | .roundTimerExpiry => Sys2Proof.Machine.execRoundTimerExpiry s
  | .requestedRound => Sys2Proof.Machine.execRequestedRound s
  | .gasBandRequest => Sys2Proof.Machine.execGasBandRequest s
  | .travelTimeout slot => Sys2Proof.Machine.execTravelTimeout slot s
  | .manifoldWatchExpiry => Sys2Proof.Machine.execManifoldWatchExpiry s
  | .keyInputChange closed => Sys2Proof.Machine.execKeyInputChange closed s
  | .keyDebounceExpiry => Sys2Proof.Machine.execKeyDebounceExpiry s
  | .tripContactChange j closed => Sys2Proof.Machine.execTripContactChange j closed s
  | .tripDebounceExpiry j => Sys2Proof.Machine.execTripDebounceExpiry j s
  | .drainageClockAdvance => Sys2Proof.Machine.execDrainageClockAdvance s
  | .minuteRollover => Sys2Proof.Machine.execMinuteRollover s
  | .gatheringWindowExpiry => Sys2Proof.Machine.execGatheringWindowExpiry s
  | .measuringExpiry => Sys2Proof.Machine.execMeasuringExpiry s
  | .purgeExpiry => Sys2Proof.Machine.execPurgeExpiry s
  | .storeWriteEnd readBack => Sys2Proof.Machine.execStoreWriteEnd readBack s
  | .linkByteReceived l b => Sys2Proof.Machine.execLinkByteReceived l b s

end Sys2Proof.Machine
end

