-- ==== Sys2Proof/Safety.lean ====
section
/-! DEFINITION. The terms in which statements about the part are made: when a request is admitted and
what its answer does to its link, and the invariants that every step keeps. -/

namespace Sys2Proof.Machine

/-! ## Requests -/

/-- The instruction that is a command's request on a link. -/
def requestInstr (l : Link) (p : Payload) : Command → Instr
  | .readStatus => .readStatus l p
  | .readSlot => .readSlot l p
  | .readZone => .readZone l p
  | .readRoundSummary => .readRoundSummary l p
  | .readLimits => .readLimits l p
  | .readResults => .readResults l p
  | .readWindows => .readWindows l p
  | .readNotices => .readNotices l p
  | .clearNotices => .clearNotices l p
  | .setNoticeMask => .setNoticeMask l p
  | .editPlanParameters => .editPlanParameters l p
  | .setZoneCount => .setZoneCount l p
  | .editZone => .editZone l p
  | .editSlotEntry => .editSlotEntry l p
  | .adoptPlan => .adoptPlan l p
  | .discardPending => .discardPending l p
  | .setCapacity => .setCapacity l p
  | .setRoundMode => .setRoundMode l p
  | .runRound => .runRound l p
  | .setClock => .setClock l p
  | .setWindow => .setWindow l p
  | .storePlan => .storePlan l p
  | .setLimits => .setLimits l p
  | .lockSlot => .lockSlot l p
  | .unlockSlot => .unlockSlot l p
  | .lockZone => .lockZone l p
  | .unlockZone => .unlockZone l p
  | .hold => .hold l p
  | .release => .release l p
  | .shutIn => .shutIn l p
  | .releaseShutIn => .releaseShutIn l p
  | .reArm => .reArm l p
  | .disarm => .disarm l p
  | .abortProcedure => .abortProcedure l p
  | .commissionSlot => .commissionSlot l p
  | .retireSlot => .retireSlot l p
  | .reclaimSlot => .reclaimSlot l p
  | .setManual => .setManual l p
  | .clearManual => .clearManual l p
  | .clearValveFault => .clearValveFault l p
  | .beginTest => .beginTest l p
  | .addTestSlot => .addTestSlot l p
  | .suspendTest => .suspendTest l p
  | .resumeTest => .resumeTest l p
  | .beginPurge => .beginPurge l p

/-- No request is in progress on a link, so the next one is taken (R148). -/
abbrev LinkFree (l : Link) (s : State) : Prop := (s.links.get l).request = none

/-- A request is taken on a link and passes the checks of R149: it is handed to the block that owns the
state it concerns. -/
abbrev Admitted (l : Link) (c : Command) (p : Payload) (s : State) : Prop :=
  LinkFree l s ∧ checkRequest l c p = none

/-- A state after a request's frame has been taken on a link and answered: the receiver is HUNTING and the
request is in progress with the reply given (R147, R148). -/
def answered (l : Link) (code : Byte) (r : Result) (data : List Byte) (s : State) : State :=
  { s with
    links :=
      s.links.set l
        { s.links.get l with
          receiver := .hunting, request := some { code := code, result := r, data := data } } }

/-- A state after a frame that is discarded whole: the receiver is HUNTING, and nothing else differs. -/
def discarded (l : Link) (s : State) : State :=
  { s with links := s.links.set l { s.links.get l with receiver := .hunting } }

/-- The state after bytes have been received one after another on a link, each a LINK_BYTE_RECEIVED. -/
def bytesTaken (l : Link) : List Byte → State → Option State
  | [], s => some s
  | b :: bs, s =>
    match exec (.linkByteReceived l b) s with
    | .next t => bytesTaken l bs t
    | .fault _ => none
    | .refused _ => none

/-- The result of an acceptance: CLAMPED when a value was stored as other than sent (R150). -/
def okUnless (clamped : Bool) : Result := if clamped then .clamped else .ok

/-- The requests that the Round Controller has yet to take after one more has been sent when a condition
holds (R46). -/
def requestsAfter (b : Bool) (n : Nat) : Nat := if b then n + 1 else n

/-- The three links with a flag raised on each (R157). -/
def noticedLinks (f : Notice) (s : State) : Links := s.links.map (LinkState.notify f)

/-- Whether the notice set of every link holds a flag. -/
def Noticed (f : Notice) (s : State) : Prop := ∀ l : Link, (s.links.get l).notices.getLsbD f.number = true

/-! ## Invariants of the links and the limits -/

/-- On every link the attention line follows the set and the mask, and the spare is in neither (R157,
R159). -/
def LinesFollow (s : State) : Prop :=
  ∀ l : Link,
    (s.links.get l).attention = ((s.links.get l).notices &&& (s.links.get l).mask != 0#16) ∧
      (s.links.get l).notices.getLsbD 15 = false ∧ (s.links.get l).mask.getLsbD 15 = false

/-- The limits lie in the ranges of R90 and R92, and the counters in theirs, each 0 in the alarm state
that does not count it (R102, R103, R105, R106). -/
def GasInRange (s : State) : Prop :=
  let g := s.gas
  (250 ≤ g.limits.cFloor ∧ g.limits.cFloor ≤ 900) ∧ (5 ≤ g.limits.oCeil ∧ g.limits.oCeil ≤ 50) ∧
    (200 ≤ g.limits.aFloor ∧ g.limits.aFloor ≤ g.limits.cFloor) ∧
    (g.limits.oCeil ≤ g.limits.aO2 ∧ g.limits.aO2 ≤ 80) ∧ g.limits.margin ≤ 200 ∧
    (1 ≤ g.limits.alarmCount ∧ g.limits.alarmCount ≤ 10) ∧ g.outCount ≤ 9 ∧ g.inCount ≤ 9 ∧ g.bandCount ≤ 1 ∧
    (if g.alarm.isRaised then g.outCount = 0 else g.inCount = 0)

/-! ## Invariants of the plan, the roster and the scanner -/

/-- Both plans lie within the ranges of R3 to R8, the active plan is valid, and so is a pending plan under
adoption (R10). -/
def PlansInRange (s : State) : Prop :=
  s.plan.active.inRange = true ∧ s.plan.active.valid = true ∧ s.plan.pendingPlan.inRange = true ∧
    (s.plan.adoption = .adopting → s.plan.pendingPlan.valid = true)

/-- Whether a yield estimate lies in 1..20 000 (R14). -/
def yieldOk : Option Nat → Bool
  | none => true
  | some y => within 1 20000 y

/-- Whether a slot of a lifecycle may be in a mode: MANUAL is for an ACTIVE slot, with a setpoint of at most
100 (R14, R86). -/
def modeOk (life : Lifecycle) : Mode → Bool
  | .auto => true
  | .manual setpoint => setpoint ≤ 100 && life == .active

/-- The roster law of R14: a slot has a yield estimate in 1..20 000 and a commission time exactly while it
is ACTIVE or RETIRING, and is in MANUAL, with a setpoint of at most 100, only while it is ACTIVE. -/
def RosterLaw (s : State) : Prop :=
  ∀ i : SlotIdx,
    let r := s.plan.roster.get i
    r.yieldEst.isSome = r.lifecycle.inService ∧ yieldOk r.yieldEst = true ∧
      r.commissioned.isSome = r.lifecycle.inService ∧ modeOk r.lifecycle r.mode = true

/-- The law of a head state (R26): the count is 0..3, and 3 exactly while the head is SILENT. -/
def Head.lawful (h : Head) : Bool := h.misses ≤ 3 && (h.state == .silent) == (h.misses == 3)

/-- The Scanner's care (R26, R27, R29, R33): a slot has a head state and a reading record exactly while it
is ACTIVE or RETIRING, and every head state is lawful. -/
def ScannerLaw (s : State) : Prop :=
  s.scanner.manifoldHead.lawful = true ∧
    ∀ i : SlotIdx,
      (s.scanner.heads.get i).isSome = inService s i ∧ (s.scanner.records.get i).isSome = inService s i ∧
        ((s.scanner.heads.get i).all Head.lawful) = true

/-! ## Invariants of valve motion -/

/-- The law of a zone's motion queue (R72): every entry's slot lies in the zone, no slot has two entries,
and the entries stand in the queue order. -/
def QueueLaw (s : State) (k : ZoneIdx) : Prop :=
  let q := s.motion.queues.get k
  (∀ e ∈ q, zoneAt s e.slot = k) ∧ (q.map (·.slot)).Nodup ∧ q.Pairwise fun a b => entryBefore a b = true

/-- Whether a slot may have a queue entry: it is ACTIVE, its valve is not STUCK (R83) and it is not the
purge slot (R85). -/
def mayQueue (s : State) (i : SlotIdx) : Bool :=
  lifecycleOf s i == .active && !(valveOf s i).isStuck && !isPurgeSlot s i

/-- The motion law: every queue is lawful and holds only slots that may have an entry; a slot that is not
ACTIVE has target and commanded position 0, and one out of service is AT REST (R15 to R18, R81). -/
def MotionLaw (s : State) : Prop :=
  (∀ k : ZoneIdx, QueueLaw s k ∧ ∀ e ∈ s.motion.queues.get k, mayQueue s e.slot = true) ∧
    ∀ i : SlotIdx,
      (lifecycleOf s i ≠ .active → (valveOf s i).target = 0 ∧ (valveOf s i).commanded = 0) ∧
        (inService s i = false → (valveOf s i).state = .atRest)

/-- Whether the allocator is STARTUP or SHUT-IN. -/
def manifoldClosed (s : State) : Bool := s.rounds.allocator == .startup || s.rounds.allocator.isShutIn

/-- While the allocator is STARTUP or SHUT-IN every target and commanded position is 0 and every queue is
empty (R49). -/
def ClosedLaw (s : State) : Prop :=
  manifoldClosed s = true →
    (∀ i : SlotIdx, (valveOf s i).target = 0 ∧ (valveOf s i).commanded = 0) ∧
      ∀ k : ZoneIdx, s.motion.queues.get k = []

/-! ## Invariants of rounds, trips and windows -/

/-- The Round Controller's ranges (R40): the period in 5..600, the capacity at most 1 200 000, a next
expiry exactly in CYCLING; and of the waiting requests no more come first than there are (R47). -/
def RoundsInRange (s : State) : Prop :=
  (5 ≤ s.rounds.period ∧ s.rounds.period ≤ 600) ∧ s.rounds.capacity ≤ 1200000 ∧
    s.rounds.nextExpiry.isSome = (s.rounds.mode == .cycling) ∧ s.rounds.requestsAhead ≤ s.rounds.requests

/-- The Trip and Window Unit's law: the clock and the window entries lie in their ranges (R117, R119), an
active occurrence has 1..240 minutes left and belongs to an enabled entry (R121), the ceilings are those of
the active occurrences (R123), and an ARMED line's debounced input is INACTIVE (R112). -/
def TripsLaw (s : State) : Prop :=
  s.trips.clock.inRange = true ∧
    (∀ w : WindowIdx,
      let v := s.trips.windows.get w
      v.entry.inRange = true ∧ (v.remaining.all (within 1 240)) = true ∧
        (v.remaining.isSome = true → v.entry.enabled = true)) ∧
    (∀ k : ZoneIdx, s.trips.ceilings.get k = quietCeiling s.trips.windows k) ∧
    ∀ j : LineIdx, (s.trips.lines.get j).state = .armed → (s.trips.lines.get j).inputActive = false

/-! ## Invariants of procedures, the store and time -/

/-- A test set of 1 to 8 slots with a measure duration in 60..1800 (R125, R126). -/
def Procedure.holdsTest (p : Procedure) : Bool :=
  within 1 8 p.testSet.length && p.duration.any (within 60 1800)

/-- An empty test set and no measure duration. -/
def Procedure.holdsNoTest (p : Procedure) : Bool := p.testSet.isEmpty && p.duration.isNone

/-- What each procedure state holds (R125, R126); that the measure duration is absent in IDLE and PURGING
is log entry 8. -/
def Procedure.holds (p : Procedure) : Bool :=
  let gathering := p.gatherExpiry.isSome
  let measuring := p.measureStart.isSome && p.measureExpiry.isSome
  let unmeasured := p.measureStart.isNone && p.measureExpiry.isNone
  let purging := p.purgeSlot.isSome && p.purgeExpiry.isSome
  let unpurged := p.purgeSlot.isNone && p.purgeExpiry.isNone
  match p.state with
  | .idle => p.holdsNoTest && !gathering && unmeasured && unpurged
  | .gathering => p.holdsTest && gathering && unmeasured && unpurged
  | .settling => p.holdsTest && !gathering && unmeasured && unpurged
  | .measuring => p.holdsTest && !gathering && measuring && unpurged
  | .suspended => p.holdsTest && !gathering && unmeasured && unpurged
  | .suspendedPurging => p.holdsTest && !gathering && unmeasured && purging
  | .purging => p.holdsNoTest && !gathering && unmeasured && purging

/-- The law of the test set and purge (R126, R141): the state fixes what is present, the set's slots are
distinct, the purge slot is not among them, each of these slots is ACTIVE, and at most 16 results are
held. -/
def ProcedureLaw (s : State) : Prop :=
  s.proc.holds = true ∧ (s.proc.testSet.map (·.slot)).Nodup ∧ s.proc.results.length ≤ 16 ∧
    ∀ i : SlotIdx,
      (isPurgeSlot s i = true → inTestSet s i = false) ∧
        (inTestSet s i = true ∨ isPurgeSlot s i = true → lifecycleOf s i = .active)

/-- While a store write is in progress the stored image is marked invalid (R160, R161) and the captured
image stands with the CRC-32 of its contents (R162). -/
def StoreLaw (s : State) : Prop :=
  match s.store.state with
  | .idle => True
  | .writing captured crc _ => s.store.stored.markedValid = false ∧ crc = crc32 captured.bytes

/-- Whether a stamped value's time has come. -/
def timeOk (s : State) (v : Option Stamped) : Bool := v.all fun x => x.time ≤ s.elapsed

/-- Whether a reading record's times have come. -/
def recordTimesOk (s : State) (r : ReadingRecord) : Bool :=
  timeOk s r.methane && timeOk s r.oxygen && timeOk s r.flow && timeOk s r.pressure && timeOk s r.position

/-- Whether the manifold record's times have come. -/
def manifoldTimesOk (s : State) (m : ManifoldRecord) : Bool :=
  timeOk s m.methane && timeOk s m.oxygen && timeOk s m.flow && timeOk s m.pressure

/-- Whether a move's start has come. -/
def moveTimeOk (s : State) (v : Valve) : Bool :=
  match v.state with
  | .moving start => start ≤ s.elapsed
  | .atRest => true
  | .stuck => true

/-- No time that the part keeps lies after its elapsed-seconds count, so that every age it reports or tests
(R29, R59, R79, R104, R133) is a true difference. -/
def TimesPast (s : State) : Prop :=
  s.gas.watchRef ≤ s.elapsed ∧ (s.proc.measureStart.all (· ≤ s.elapsed)) = true ∧
    manifoldTimesOk s s.scanner.manifold = true ∧
    ∀ i : SlotIdx,
      (s.scanner.records.get i).all (recordTimesOk s) = true ∧
        ((s.plan.roster.get i).commissioned.all (· ≤ s.elapsed)) = true ∧ moveTimeOk s (valveOf s i) = true

end Sys2Proof.Machine
end

