-- ==== Sys2Proof/Certificates/Slice0/Obligations.lean ====
section
/-! DEFINITION. The statements about the part, one definition each, in the order of OBLIGATIONS.json. Each
docstring names the rules of spec/ that the statement rests on. -/

open Sys2Proof Sys2Proof.Machine

/-! ## The queue and the step -/

/-- A step takes the command at the front of the queue and runs it on the state with the queue's rest; on an
empty queue the block idles (log entry 6). -/
def Obligations.StepRunsFrontCommand : Prop :=
  (∀ (c : Instr) (rest : List Instr) (s : State),
      s.pending = c :: rest → step s = exec c { s with pending := rest }) ∧
    ∀ s : State, s.pending = [] → step s = .next s

/-- Every command completes in every state, an event whose condition does not hold included (log entry 5),
and leaves the queue of waiting commands as it was, RESET included (log entry 20). -/
def Obligations.EveryCommandCompletes : Prop :=
  ∀ (c : Instr) (s : State), ∃ t : State, exec c s = .next t ∧ t.pending = s.pending

/-! ## Requests, frames and replies (chapter 8) -/

/-- R149: the four checks in their order, on a link with no request in progress; a request that passes them
all is decided by its owning block, over the state in which its frame has been taken. -/
def Obligations.RequestChecks : Prop :=
  ∀ (l : Link) (p : Payload) (s : State), LinkFree l s →
    (∀ code : Byte, commandOf code = none →
        exec (.unknownCommand l code p) s = .next (answered l code .unknownCommand [] s)) ∧
      ∀ c : Command,
        (p.length ≠ payloadLength p c →
            exec (requestInstr l p c) s = .next (answered l (codeOf c) .badLength [] s)) ∧
          (p.length = payloadLength p c → permitted c l = false →
            exec (requestInstr l p c) s = .next (answered l (codeOf c) .notPermitted [] s)) ∧
          (p.length = payloadLength p c → permitted c l = true → numbersOk c p = false →
            exec (requestInstr l p c) s = .next (answered l (codeOf c) .badValue [] s)) ∧
          (p.length = payloadLength p c → permitted c l = true → numbersOk c p = true →
            exec (requestInstr l p c) s =
              .next
                (answered l (codeOf c) (owner l p c (discarded l s)).2.result
                  (owner l p c (discarded l s)).2.data (owner l p c (discarded l s)).1))

/-- R151: the links on which each command is permitted; on any other it is refused with NOT_PERMITTED; the
two commands permitted on two links have the same effect from either. -/
def Obligations.AuthorityTable : Prop :=
  (∀ (c : Command) (l : Link),
     permitted c l = true ↔
       c ∈ [Command.readStatus, .readSlot, .readZone, .readRoundSummary, .readLimits, .readResults,
           .readWindows, .readNotices, .clearNotices, .setNoticeMask] ∨
         (l = .station ∧
           c ∈ [Command.editPlanParameters, .setZoneCount, .editZone, .editSlotEntry, .adoptPlan,
             .discardPending, .setCapacity, .setRoundMode, .runRound, .setClock, .setWindow, .storePlan,
             .suspendTest]) ∨
         (l = .safety ∧
           c ∈ [Command.setLimits, .lockSlot, .unlockSlot, .lockZone, .unlockZone, .hold, .release, .shutIn,
             .releaseShutIn, .reArm, .disarm, .abortProcedure]) ∨
         (l = .crew ∧
           c ∈ [Command.commissionSlot, .retireSlot, .reclaimSlot, .setManual, .clearManual,
             .clearValveFault, .beginTest, .addTestSlot, .suspendTest, .resumeTest, .beginPurge,
             .abortProcedure])) ∧
    (∀ (l : Link) (c : Command) (p : Payload) (s : State), LinkFree l s → p.length = payloadLength p c →
      permitted c l = false →
        exec (requestInstr l p c) s = .next (answered l (codeOf c) .notPermitted [] s)) ∧
    ∀ (p : Payload) (s : State),
      owner .station p .suspendTest s = owner .crew p .suspendTest s ∧
        owner .safety p .abortProcedure s = owner .crew p .abortProcedure s

/-- R145 and R148: what each byte does to a link's receiver, HUNTING or ASSEMBLING. A frame whose sync byte
came while a request was in progress is discarded when it is complete; the mark that the ASSEMBLING receiver
carries for it is the model's (log entry 15, DEDUCED for R148). -/
def Obligations.ReceiverTakesBytes : Prop :=
  ∀ (l : Link) (s : State) (b : Byte),
    let receiving := fun r : Receiver => { s with links := s.links.set l { s.links.get l with receiver := r } }
    ((s.links.get l).receiver = .hunting →
        (b = 0xA5#8 →
          exec (.linkByteReceived l b) s =
            .next (receiving (.assembling (s.links.get l).request.isSome []))) ∧
        (b ≠ 0xA5#8 → exec (.linkByteReceived l b) s = .next s)) ∧
      (∀ late : Bool, (s.links.get l).receiver = .assembling late [] →
        (1 ≤ b.toNat → b.toNat ≤ 250 →
          exec (.linkByteReceived l b) s = .next (receiving (.assembling late [b]))) ∧
        (b.toNat = 0 ∨ 250 < b.toNat → exec (.linkByteReceived l b) s = .next (receiving .hunting))) ∧
      ∀ (late : Bool) (len : Byte) (rest : List Byte),
        (s.links.get l).receiver = .assembling late (len :: rest) → 1 ≤ len.toNat → len.toNat ≤ 250 →
        (rest.length + 1 < len.toNat + 2 →
          exec (.linkByteReceived l b) s = .next (receiving (.assembling late (len :: rest ++ [b])))) ∧
        (rest.length + 1 = len.toNat + 2 →
          exec (.linkByteReceived l b) s =
            .next
              (if late then receiving .hunting
              else
                checkFrame l (len :: rest.take len.toNat) (leNat ((rest ++ [b]).drop len.toNat)) s))

/-- R145 to R148: a frame with a wrong CRC, a bad length byte or a gap is discarded, and so is every frame
of a link that has a request in progress, or whose sync byte came before the reply had been sent, also when
the reply has been sent meanwhile: the receiver is HUNTING and nothing else changes. A gap while HUNTING has no
effect. -/
def Obligations.FramesDiscarded : Prop :=
  (∀ (l : Link) (s : State),
     (∀ (body : List Byte) (crc : Word16), LinkFree l s → crc ≠ crc16 body →
         exec (.frameCrcDiscard l body crc) s = .next (discarded l s)) ∧
       (∀ (late : Bool) (len : Byte), (s.links.get l).receiver = .assembling late [] →
         len.toNat = 0 ∨ 250 < len.toNat →
         exec (.frameLengthDiscard l len) s = .next (discarded l s)) ∧
       (∀ (late : Bool) (bytes : List Byte), (s.links.get l).receiver = .assembling late bytes →
         exec (.interByteGapTimeout l) s = .next (discarded l s)) ∧
       ((s.links.get l).receiver = .hunting → exec (.interByteGapTimeout l) s = .next s) ∧
       ∀ (body : List Byte) (crc : Word16), exec (.frameDuringReply l body crc) s = .next (discarded l s)) ∧
  (∀ (l : Link) (s : State) (r : Reply), (s.links.get l).request = some r →
     (∀ (c : Command) (p : Payload), exec (requestInstr l p c) s = .next (discarded l s)) ∧
       (∀ (code : Byte) (p : Payload), exec (.unknownCommand l code p) s = .next (discarded l s)) ∧
       ∀ (body : List Byte) (crc : Word16), exec (.frameCrcDiscard l body crc) s = .next (discarded l s))

/-- R145, R147 and R148 together: the bytes of a request frame, received one after another by a HUNTING
receiver on a link with no request in progress, have the effect of the request. -/
def Obligations.BytewiseReceptionIsRequest : Prop :=
  ∀ (l : Link) (c : Command) (p : Payload) (s : State),
    LinkFree l s → (s.links.get l).receiver = .hunting → 1 + p.length ≤ 250 →
      ∃ t : State,
        exec (requestInstr l p c) s = .next t ∧
          bytesTaken l (requestFrame (codeOf c) p) s = some t

/-- R148 and section 10.1: at its last byte a reply is whole on the line, laid out as a frame with the
command code's top bit set, and the request is no longer in progress. The field that keeps the bytes sent is
log entry 14; that REPLY_SENT with no request in progress leaves the state as it was is log entry 5. -/
def Obligations.ReplySentEndsRequest : Prop :=
  ∀ (l : Link) (s : State),
    (∀ r : Reply, (s.links.get l).request = some r →
        let body := byteOf (2 + r.data.length) :: (r.code ||| 0x80#8) :: r.result.byte :: r.data
        exec (.replySent l) s =
          .next
            { s with
              links :=
                s.links.set l
                  { s.links.get l with
                    request := none, sent := 0xA5#8 :: body ++ leBytes 2 (crc16 body).toNat } }) ∧
      ((s.links.get l).request = none → exec (.replySent l) s = .next s)

/-- Section 10.1: every request taken is answered, under its own code, by a reply that fits a frame. The
plans lie in their ranges, so that no tag is longer than 12 characters. -/
def Obligations.EveryReplyFitsAFrame : Prop :=
  ∀ (l : Link) (c : Command) (p : Payload) (s t : State), PlansInRange s → LinkFree l s →
    exec (requestInstr l p c) s = .next t →
      ∃ r : Reply, (t.links.get l).request = some r ∧ r.code = codeOf c ∧ 2 + r.data.length ≤ 250

/-- R150: a request that is refused changes nothing of the part but the link that carries its reply. -/
def Obligations.RefusalsChangeNothing : Prop :=
  ∀ (l : Link) (c : Command) (p : Payload) (s t : State) (r : Reply), LinkFree l s →
    exec (requestInstr l p c) s = .next t → (t.links.get l).request = some r → r.result ≠ .ok →
      r.result ≠ .clamped → t = answered l (codeOf c) r.result r.data s

/-- R153 to R156: each read is answered whole from the state it is taken in, and changes no state. -/
def Obligations.ReadsAnswerAndChangeNothing : Prop :=
  ∀ (l : Link) (p : Payload) (s : State),
    (Admitted l .readStatus p s →
        exec (.readStatus l p) s = .next (answered l 0x01#8 .ok (statusData s) s)) ∧
      (∀ i : SlotIdx, Admitted l .readSlot p s → slotOf (u8 p 0) = some i →
        exec (.readSlot l p) s = .next (answered l 0x02#8 .ok (slotData s i) s)) ∧
      (∀ k : ZoneIdx, Admitted l .readZone p s → zoneOfNum (u8 p 0) = some k →
        exec (.readZone l p) s = .next (answered l 0x03#8 .ok (zoneData s k) s)) ∧
      (∀ i : SlotIdx, Admitted l .readRoundSummary p s → slotOf (u8 p 0) = some i →
        exec (.readRoundSummary l p) s = .next (answered l 0x04#8 .ok (summaryData s i) s)) ∧
      (Admitted l .readLimits p s →
        exec (.readLimits l p) s = .next (answered l 0x05#8 .ok (limitsData s) s)) ∧
      (Admitted l .readResults p s →
        exec (.readResults l p) s = .next (answered l 0x06#8 .ok (resultsData s) s)) ∧
      (Admitted l .readWindows p s →
        exec (.readWindows l p) s = .next (answered l 0x07#8 .ok (windowsData s) s)) ∧
      (Admitted l .readNotices p s →
        exec (.readNotices l p) s =
          .next
            (answered l 0x08#8 .ok
              (leBytes 2 (s.links.get l).notices.toNat ++ leBytes 2 (s.links.get l).mask.toNat ++
                [flagByte (s.links.get l).attention])
              s))

/-- Section 10.5: the sizes of the fixed read records, in every state. R168 and section 10.4: an entry of a
round summary page has 2, 5 or 7 bytes; a page is filled in ascending slot order from the slot named, holds
at most the entries and the bytes it has room for, and leaves out an entry only when it has its number of
entries or the first entry left out does not fit; Read Round Summary fills its page to 40 entries and 215
bytes, gives the header, the number of entries and the slot of the first entry left out. -/
def Obligations.ReadRecordSizes : Prop :=
  (∀ (s : State) (i : SlotIdx) (k : ZoneIdx),
     (statusData s).length = 89 ∧ (limitsData s).length = 31 ∧ (resultsData s).length = 203 ∧
       (windowsData s).length = 87 ∧ (zoneData s k).length = 24 + 7 * min 30 (s.motion.queues.get k).length ∧
       (summaryData s i).length ≤ 248 ∧ (PlansInRange s → (slotData s i).length = 93)) ∧
  (∀ (e : AllocEntry) (i : SlotIdx),
     (e.bytes i).length =
       match e.standing with
       | .absent => 2
       | .closed _ => 2
       | .fixed => 5
       | .ranked => 7) ∧
  (∀ (r : AllocRecord) (i : SlotIdx) (n room : Nat),
     let bytes := fun es : List (SlotIdx × AllocEntry) => es.flatMap fun x => x.2.bytes x.1
     let given := (fillPage n room (entriesFrom r i)).1
     let left := (fillPage n room (entriesFrom r i)).2
     (∀ j e, (j, e) ∈ entriesFrom r i ↔ i ≤ j ∧ r.entries.get j = some e) ∧
       ((entriesFrom r i).Pairwise fun a b => a.1 < b.1) ∧
       given ++ left = entriesFrom r i ∧ given.length ≤ n ∧ (bytes given).length ≤ room ∧
       ∀ x rest, left = x :: rest → given.length = n ∨ room < (bytes given).length + (x.2.bytes x.1).length) ∧
  (∀ (s : State) (i : SlotIdx),
     (s.rounds.record = none → summaryData s i = [0x00#8]) ∧
       ∀ r : AllocRecord, s.rounds.record = some r →
         let given := (fillPage 40 215 (entriesFrom r i)).1
         let left := (fillPage 40 215 (entriesFrom r i)).2
         summaryData s i =
           0x01#8 :: leBytes 4 (r.serial % 2 ^ 32) ++ leBytes 4 r.capacity ++ leBytes 2 r.floor ++
             leBytes 1 r.ceiling ++ leBytes 4 r.sumF ++ leBytes 4 r.sumM ++ leBytes 4 r.sumX ++
             (if r.sumF = 0 then [0xFF#8, 0xFF#8, 0xFF#8]
               else leBytes 2 (r.sumM / r.sumF) ++ leBytes 1 (r.sumX / r.sumF)) ++
             leBytes 4 (r.capacity - r.sumF) ++
             [byteOf given.length,
               match left with
               | [] => 0x00#8
               | x :: _ => byteOf (slotNum x.1)] ++
             given.flatMap fun x => x.2.bytes x.1)

/-- R157 to R159: a flag raised by a block is set in the notice sets of all three links, whatever their
masks; Clear Notices and Set Notice Mask act on the sending link alone; a link's attention line follows its
set and mask. -/
def Obligations.NoticeSets : Prop :=
  (∀ (f : Notice) (s : State) (l : Link),
     let k := s.links.get l
     let v := (raise f s).links.get l
     (∀ n : Nat, n < 16 → v.notices.getLsbD n = (k.notices.getLsbD n || n == f.number)) ∧
       v.attention = ((v.notices &&& k.mask) != 0#16) ∧
       v.mask = k.mask ∧ v.receiver = k.receiver ∧ v.request = k.request ∧ v.sent = k.sent ∧
       f.number ≤ 14 ∧ { raise f s with links := s.links } = s) ∧
  (∀ (l : Link) (p : Payload) (s : State),
     let k := s.links.get l
     (Admitted l .clearNotices p s → (∀ b ∈ p.drop 1, b.toNat ≤ 15) →
         ∃ left : Word16,
           (∀ n : Nat, n < 16 →
             left.getLsbD n = (k.notices.getLsbD n && !(n != 15 && (p.drop 1).any fun b => b.toNat == n))) ∧
           exec (.clearNotices l p) s =
             .next
               (answered l 0x09#8 .ok (leBytes 2 left.toNat)
                 { s with
                   links := s.links.set l { k with notices := left, attention := (left &&& k.mask) != 0#16 } })) ∧
       (Admitted l .clearNotices p s → (∃ b ∈ p.drop 1, 15 < b.toNat) →
         exec (.clearNotices l p) s = .next (answered l 0x09#8 .badValue [] s)) ∧
       (Admitted l .setNoticeMask p s →
         let mask := BitVec.ofNat 16 (u16 p 0) &&& 0x7FFF#16
         exec (.setNoticeMask l p) s =
           .next
             (answered l 0x0A#8 .ok (leBytes 2 mask.toNat)
               { s with
                 links := s.links.set l { k with mask := mask, attention := (k.notices &&& mask) != 0#16 } })))

/-! ## The borehole plan (chapter 1) -/

/-- R3 to R8: the four edits of the pending plan while it is EDITABLE, with their clamps; the reply echoes
the values stored. That an absent override is echoed as 0000h is log entry 19 (DEDUCED). The spans of the
zones: a slot lies in zone k of the active plan exactly when k is at most Z and the slot lies above the last
slot of the zone before it (0 for zone 1) and not above its own (60 for zone Z). -/
def Obligations.PlanEdits : Prop :=
  (∀ (s : State) (i : SlotIdx) (k : ZoneIdx), PlansInRange s →
    let plan := s.plan.active
    let below := if k.val = 0 then 0 else (plan.zones.get ⟨k.val - 1, by omega⟩).lastSlot
    let last := if k.val + 1 < plan.zoneCount then (plan.zones.get k).lastSlot else 60
    zoneAt s i = k ↔ k.val + 1 ≤ plan.zoneCount ∧ below < slotNum i ∧ slotNum i ≤ last) ∧
  ∀ (l : Link) (p : Payload) (s : State), s.plan.adoption = .editable →
    let pending := s.plan.pendingPlan
    let edited := fun q : Plan => { s with plan := { s.plan with pendingPlan := q } }
    (Admitted l .editPlanParameters p s →
        let limit := max 20 (min 600 (u16 p 0))
        let travel := max 10 (min 120 (u8 p 2))
        exec (.editPlanParameters l p) s =
          .next
            (answered l 0x10#8 (okUnless (limit ≠ u16 p 0 ∨ travel ≠ u8 p 2)) (leBytes 2 limit ++ leBytes 1 travel)
              (edited { pending with staleLimit := limit, travelTimeout := travel }))) ∧
      (Admitted l .setZoneCount p s →
        let z := max 1 (min 10 (u8 p 0))
        exec (.setZoneCount l p) s =
          .next (answered l 0x11#8 (okUnless (z ≠ u8 p 0)) (leBytes 1 z) (edited { pending with zoneCount := z }))) ∧
      (∀ k : ZoneIdx, Admitted l .editZone p s → zoneOfNum (u8 p 0) = some k →
        let ramp := max 1 (min 100 (u8 p 2))
        let stepping : Stepping :=
          if u8 p 3 = 0 then .all else if u8 p 3 = 1 then .one else if u8 p 3 ≤ 3 then .two else .four
        let trip : Option LineIdx := indexOf 4 (u8 p 4)
        exec (.editZone l p) s =
          .next
            (answered l 0x12#8
              (okUnless (ramp ≠ u8 p 2 ∨ (u8 p 3 = 3 ∨ 4 < u8 p 3) ∨ 4 < u8 p 4))
              (leBytes 1 (k.val + 1) ++ leBytes 1 (u8 p 1) ++ leBytes 1 ramp ++ leBytes 1 stepping.number ++
                leBytes 1 (lineNum trip))
              (edited
                { pending with
                  zones :=
                    pending.zones.set k
                      { lastSlot := u8 p 1, ramp := ramp, stepping := stepping, tripLine := trip } }))) ∧
      ∀ i : SlotIdx, Admitted l .editSlotEntry p s → slotOf (u8 p 0) = some i →
        let tag := (p.drop 7).take (u8 p 6)
        let priority := min 3 (u8 p 1)
        let uMax := min 100 (u8 p 2)
        let uMin := min 50 (u8 p 3)
        let stale : Option Nat := if u16 p 4 = 0 then none else some (max 20 (min 600 (u16 p 4)))
        ((tag.length ≤ 12 ∧ ∀ b ∈ tag, 0x20 ≤ b.toNat ∧ b.toNat ≤ 0x7E) →
          exec (.editSlotEntry l p) s =
            .next
              (answered l 0x13#8
                (okUnless (priority ≠ u8 p 1 ∨ uMax ≠ u8 p 2 ∨ uMin ≠ u8 p 3 ∨ stale.getD 0 ≠ u16 p 4))
                (leBytes 1 (slotNum i) ++ leBytes 1 priority ++ leBytes 1 uMax ++ leBytes 1 uMin ++
                  leBytes 2 (stale.getD 0) ++ leBytes 1 tag.length ++ tag)
                (edited
                  { pending with
                    entries :=
                      pending.entries.set i
                        { priority := priority, uMax := uMax, uMin := uMin, tag := tag,
                          staleOverride := stale } }))) ∧
        (¬(tag.length ≤ 12 ∧ ∀ b ∈ tag, 0x20 ≤ b.toNat ∧ b.toNat ≤ 0x7E) →
          exec (.editSlotEntry l p) s = .next (answered l 0x13#8 .badValue [] s))

/-- R2, R9, R10: while ADOPTING every edit, Discard Pending and Adopt Plan are refused; while EDITABLE
Discard Pending copies the active plan whole over the pending plan, and Adopt Plan of a valid plan makes it
ADOPTING, of an invalid one names the lowest zone below Z whose stored last slot is outside 1..59 or not
above the one before. -/
def Obligations.PlanRequests : Prop :=
  (∀ (l : Link) (p : Payload) (s : State), s.plan.adoption = .adopting →
     ∀ c ∈ [Command.editPlanParameters, .setZoneCount, .editZone, .editSlotEntry, .adoptPlan, .discardPending],
       Admitted l c p s →
         exec (requestInstr l p c) s = .next (answered l (codeOf c) .adoptPending [] s)) ∧
  (∀ (l : Link) (p : Payload) (s : State), Admitted l .discardPending p s →
     (s.plan.adoption = .editable →
         exec (.discardPending l p) s =
           .next (answered l 0x15#8 .ok [] { s with plan := { s.plan with pendingPlan := s.plan.active } })) ∧
       (s.plan.adoption = .adopting →
         exec (.discardPending l p) s = .next (answered l 0x15#8 .adoptPending [] s))) ∧
  (∀ (l : Link) (p : Payload) (s : State), Admitted l .adoptPlan p s → s.plan.pendingPlan.zoneCount ≤ 10 →
     let pending := s.plan.pendingPlan
     let last := fun k : Nat => if k = 0 then 0 else (pending.zones.cells[k - 1]?.map (·.lastSlot)).getD 0
     let good := fun k : Nat => 1 ≤ last k ∧ last k ≤ 59 ∧ last (k - 1) < last k
     (s.plan.adoption = .editable → (∀ k, 1 ≤ k → k < pending.zoneCount → good k) →
         exec (.adoptPlan l p) s =
           .next (answered l 0x14#8 .ok [] { s with plan := { s.plan with adoption := .adopting } })) ∧
       (∀ k, s.plan.adoption = .editable → 1 ≤ k → k < pending.zoneCount → ¬good k →
         (∀ j, 1 ≤ j → j < k → good j) →
         exec (.adoptPlan l p) s = .next (answered l 0x14#8 .planInvalid [byteOf k] s)) ∧
       (s.plan.adoption = .adopting → exec (.adoptPlan l p) s = .next (answered l 0x14#8 .adoptPending [] s)))

/-- R11, R12, R13, R79: an outstanding adoption completes at the next round event of any kind, whatever the
allocator state: the active plan is the pending plan whole, EDITABLE, with PlanAdopted noticed, and the event
goes on from there as with none outstanding. At the copy every queue is that of the migration, and every move
whose age has reached the new travel timeout is timed out: its valve STUCK, its queue entry removed,
ValveFault noticed; the other valves are as they were. What the timeouts do to a settling test, taken in
ascending slot order, is log entry 25. -/
def Obligations.AdoptionCompletesAtRoundEvents : Prop :=
  (∀ s : State, s.plan.adoption = .adopting →
    let adopted := fun t : State =>
      t.plan.active = s.plan.pendingPlan ∧ t.plan.pendingPlan = s.plan.pendingPlan ∧
        t.plan.adoption = .editable ∧ t.plan.roster = s.plan.roster ∧ Noticed .planAdopted t
    (∀ e, s.rounds.nextExpiry = some e → e ≤ s.elapsed →
        ∃ t, exec .roundTimerExpiry s = .next t ∧ adopted t) ∧
      (∀ l p, Admitted l .runRound p s → ∃ t, exec (.runRound l p) s = .next t ∧ adopted t) ∧
      (0 < s.rounds.requests → ∃ t, exec .requestedRound s = .next t ∧ adopted t) ∧
      ∀ l p, Admitted l .release p s → s.rounds.missed = true →
        s.rounds.allocator = .startup ∨ s.rounds.allocator = .held →
        ∃ t, exec (.release l p) s = .next t ∧ adopted t) ∧
  (∀ s : State, s.plan.adoption = .adopting →
    let copied := { s.plan with active := s.plan.pendingPlan, adoption := .editable }
    let expired := fun i : SlotIdx =>
      match (valveOf s i).state with
      | .moving start => decide (start + s.plan.pendingPlan.travelTimeout ≤ s.elapsed)
      | .atRest => false
      | .stuck => false
    let c := completeAdoption s
    roundEvent s = roundEvent c ∧ c.plan = copied ∧ Noticed .planAdopted c ∧
      (∀ i, expired i = true → valveOf c i = { valveOf s i with state := .stuck } ∧ Noticed .valveFault c) ∧
      (∀ i, expired i = false → valveOf c i = valveOf s i) ∧
      (∀ k, c.motion.queues.get k =
        ((migrateQueues { s with plan := copied }).motion.queues.get k).filter fun e => !expired e.slot) ∧
      (s.proc.state ≠ .settling ∨ (∀ i, inTestSet s i = true → expired i = false) → c.proc = s.proc) ∧
      ((∀ i, expired i = false) → c.links = noticedLinks .planAdopted s) ∧
      { c with links := s.links, plan := s.plan, motion := s.motion, proc := s.proc } = s)

/-- R13: at the copy every queue entry moves, unchanged, to the queue of its slot's zone in the new plan,
and each queue stands in the queue order. -/
def Obligations.QueueMigration : Prop :=
  ∀ (s : State) (k : ZoneIdx),
    let q := (migrateQueues s).motion.queues.get k
    q.Perm ((allEntries s).filter fun e => zoneAt s e.slot == k) ∧
      (q.Pairwise fun a b => entryBefore a b = true) ∧
      (migrateQueues s).motion.valves = s.motion.valves ∧
      { migrateQueues s with motion := s.motion } = s

/-- R15, R16, R18: Commission Slot of a VACANT slot, with its seed clamped to 1..20 000; Retire Slot,
decided in its order, whose acceptance makes the slot RETIRING and AUTO and closes its valve urgently;
Reclaim Slot, which needs a RETIRED slot and an active key line and makes the slot VACANT. -/
def Obligations.LifecycleRequests : Prop :=
  (∀ (l : Link) (p : Payload) (s : State) (i : SlotIdx),
     Admitted l .commissionSlot p s → slotOf (u8 p 0) = some i →
       let seed := max 1 (min 20000 (u16 p 1))
       (lifecycleOf s i = .vacant →
           exec (.commissionSlot l p) s =
             .next
               (answered l 0x30#8 (okUnless (seed ≠ u16 p 1)) (leBytes 1 (slotNum i) ++ leBytes 2 seed)
                 { s with
                   plan :=
                     { s.plan with
                       roster :=
                         s.plan.roster.set i
                           { lifecycle := .active, mode := .auto, yieldEst := some seed,
                             commissioned := some s.elapsed } }
                   motion :=
                     { s.motion with
                       valves :=
                         s.motion.valves.set i
                           { target := 0, commanded := 0, reported := none, state := .atRest } }
                   scanner :=
                     { s.scanner with
                       heads := s.scanner.heads.set i (some { state := .responding, misses := 0 })
                       records :=
                         s.scanner.records.set i
                           (some
                             { methane := none, oxygen := none, flow := none, pressure := none,
                               position := none, drainOpen := none, faults := none }) }
                   rounds := { s.rounds with staleMarks := s.rounds.staleMarks.set i false } })) ∧
         (lifecycleOf s i ≠ .vacant →
           exec (.commissionSlot l p) s = .next (answered l 0x30#8 .slotState [] s))) ∧
  (∀ (l : Link) (p : Payload) (s : State) (i : SlotIdx),
     Admitted l .retireSlot p s → slotOf (u8 p 0) = some i →
       (lifecycleOf s i ≠ .active → exec (.retireSlot l p) s = .next (answered l 0x31#8 .slotState [] s)) ∧
         (lifecycleOf s i = .active → inTestSet s i = true ∨ isPurgeSlot s i = true →
           exec (.retireSlot l p) s = .next (answered l 0x31#8 .slotInProcedure [] s)) ∧
         (lifecycleOf s i = .active → inTestSet s i = false → isPurgeSlot s i = false →
           let r := s.plan.roster.get i
           exec (.retireSlot l p) s =
             .next
               (answered l 0x31#8 .ok []
                 (issueZone (zoneAt s i)
                   (urgentClose (fun j => j == i)
                     { discarded l s with
                       plan :=
                         { s.plan with
                           roster := s.plan.roster.set i { r with lifecycle := .retiring, mode := .auto } } }))))) ∧
  (∀ (l : Link) (p : Payload) (s : State) (i : SlotIdx),
     Admitted l .reclaimSlot p s → slotOf (u8 p 0) = some i →
       (lifecycleOf s i ≠ .retired → exec (.reclaimSlot l p) s = .next (answered l 0x32#8 .slotState [] s)) ∧
         (lifecycleOf s i = .retired → s.gas.keyActive = false →
           exec (.reclaimSlot l p) s = .next (answered l 0x32#8 .keyRequired [] s)) ∧
         (lifecycleOf s i = .retired → s.gas.keyActive = true →
           exec (.reclaimSlot l p) s =
             .next
               (answered l 0x32#8 .ok []
                 { s with
                   plan :=
                     { s.plan with
                       roster := s.plan.roster.set i { s.plan.roster.get i with lifecycle := .vacant } }
                   motion :=
                     { s.motion with
                       valves :=
                         s.motion.valves.set i
                           { target := 0, commanded := 0, reported := none, state := .atRest } } })))

/-! ## Rounds and the allocator (chapter 3) -/

/-- R47 and R41: Set Capacity clamps to 1 200 000 and requests a round exactly when the capacity falls, a
round that comes before a round event of another kind; Set Round Mode stores the mode and the clamped
period, and sets or removes the next expiry. -/
def Obligations.RoundSettings : Prop :=
  (∀ (l : Link) (p : Payload) (s : State), Admitted l .setCapacity p s →
     let q := min 1200000 (u32 p 0)
     let sent := fun n : Nat => requestsAfter (decide (q < s.rounds.capacity)) n
     exec (.setCapacity l p) s =
       .next
         (answered l 0x16#8 (okUnless (q ≠ u32 p 0)) (leBytes 4 q)
           { s with
             rounds :=
               { s.rounds with
                 capacity := q
                 requests := sent s.rounds.requests
                 requestsAhead := sent s.rounds.requestsAhead } })) ∧
  (∀ (l : Link) (p : Payload) (s : State), Admitted l .setRoundMode p s →
     let period := max 5 (min 600 (u16 p 1))
     let stored := fun (m : RoundMode) (e : Option Nat) =>
       { s with rounds := { s.rounds with mode := m, period := period, nextExpiry := e } }
     (u8 p 0 = 0 →
         exec (.setRoundMode l p) s =
           .next
             (answered l 0x17#8 (okUnless (period ≠ u16 p 1)) (0x00#8 :: leBytes 2 period)
               (stored .cycling (some (s.elapsed + period))))) ∧
       (u8 p 0 = 1 →
         exec (.setRoundMode l p) s =
           .next
             (answered l 0x17#8 (okUnless (period ≠ u16 p 1)) (0x01#8 :: leBytes 2 period) (stored .stepped none))) ∧
       (1 < u8 p 0 → exec (.setRoundMode l p) s = .next (answered l 0x17#8 .badValue [] s)))

/-- R42, R43, R46, R47: the commands that are round events, and what each does to the timer. Before a timer
expiry or a Run Round the waiting rounds that Set Capacity requested are taken, one round event each, so that
such a round is the next round event (log entry 9). An expiry before its time and a requested round with none
waiting leave the state as it was (log entry 5). -/
def Obligations.RoundEventCommands : Prop :=
  (∀ (s : State) (e : Nat), s.rounds.nextExpiry = some e →
     (e ≤ s.elapsed →
         let t := roundEvent (roundsAhead s)
         exec .roundTimerExpiry s =
           .next { t with rounds := { t.rounds with nextExpiry := some (e + s.rounds.period) } }) ∧
       (s.elapsed < e → exec .roundTimerExpiry s = .next s)) ∧
    (∀ s : State,
      (s.rounds.nextExpiry = none → exec .roundTimerExpiry s = .next s) ∧
        (s.rounds.requests = 0 → exec .requestedRound s = .next s) ∧
        ∀ n : Nat, s.rounds.requests = n + 1 →
          exec .requestedRound s =
            .next
              (roundEvent
                { s with
                  rounds := { s.rounds with requests := n, requestsAhead := s.rounds.requestsAhead - 1 } })) ∧
    (∀ (l : Link) (p : Payload) (s : State), Admitted l .runRound p s →
      let t := roundEvent (roundsAhead (discarded l s))
      exec (.runRound l p) s =
        .next
          (answered l 0x18#8 .ok
            ([t.rounds.allocator.byte, flagByte (running s)] ++ leBytes 4 (t.rounds.computed % 2 ^ 32))
            { t with
              rounds :=
                { t.rounds with
                  nextExpiry :=
                    match s.rounds.mode with
                    | .cycling => some (s.elapsed + s.rounds.period)
                    | .stepped => none } })) ∧
    ∀ s : State,
      (s.rounds.requestsAhead = 0 → roundsAhead s = s) ∧
        ∀ m n : Nat, s.rounds.requestsAhead = m + 1 → s.rounds.requests = n + 1 →
          roundsAhead s =
            roundsAhead
              (roundEvent { s with rounds := { s.rounds with requests := n, requestsAhead := m } })

/-- R44, R60, R68: with no adoption outstanding, a round event while the allocator is RUNNING computes one
allocation, hands its targets over under the new count of computed rounds (a RANKED slot its target, a CLOSED
slot 0, a FIXED or ABSENT slot nothing, with each slot's place in the capacity order), tests the queues for
issue and notices RoundDone; in the other states it sets the missed flag and computes nothing; neither
changes the plan, the limits, the timer, the capacity or the allocator. A computed round sets the stale-run
mark of a slot that stands CLOSED for STALE and clears that of a slot of another standing, with SlotStale
noticed when a mark newly set begins a run and only then; RoundDone and SlotStale are all it notices. -/
def Obligations.RoundEventOutcome : Prop :=
  (∀ s : State, s.plan.adoption = .editable →
     let t := roundEvent s
     let r := allocate s
     let hands := fun i : SlotIdx =>
       match (r.entries.get i).map fun e => (e.standing, e.target) with
       | some (.ranked, u) => some u
       | some (.closed _, _) => some 0
       | some (.fixed, _) => none
       | some (.absent, _) => none
       | none => none
     let place := fun i : SlotIdx => ((r.entries.get i).bind (·.place)).getD 0
     (running s = true →
         t.rounds =
             { s.rounds with
               computed := s.rounds.computed + 1
               record := some r
               staleMarks := newMarks r s.rounds.staleMarks } ∧
           t.motion = (issueAll (handTargets (s.rounds.computed + 1) hands place s)).motion ∧
           t.links = (computeRound s).links ∧ Noticed .roundDone t) ∧
       (running s = false →
         t.rounds = { s.rounds with missed := true } ∧ t.links = s.links ∧ t.motion = (issueAll s).motion ∧
           ∀ i, (valveOf t i).target = (valveOf s i).target) ∧
       { t with links := s.links, rounds := s.rounds, motion := s.motion } = s) ∧
  (∀ (s : State) (i : SlotIdx),
     let r := allocate s
     let t := computeRound s
     ((r.entries.get i).map (·.standing) = some (.closed .stale) → t.rounds.staleMarks.get i = true) ∧
       (∀ st : Standing, (r.entries.get i).map (·.standing) = some st → st ≠ .closed .stale →
         t.rounds.staleMarks.get i = false) ∧
       (r.entries.get i = none → t.rounds.staleMarks.get i = s.rounds.staleMarks.get i) ∧
       ((r.entries.get i).map (·.standing) = some (.closed .stale) → s.rounds.staleMarks.get i = false →
         Noticed .slotStale t)) ∧
  (∀ s : State,
     let begins := fun i : SlotIdx =>
       ((allocate s).entries.get i).map (·.standing) = some (.closed .stale) ∧ s.rounds.staleMarks.get i = false
     let done := { s with links := noticedLinks .roundDone s }
     ((∃ i, begins i) → (computeRound s).links = noticedLinks .slotStale done) ∧
       ((∀ i, ¬begins i) → (computeRound s).links = done.links))

/-- R50, R54, R51: Hold makes a RUNNING allocator HELD; Release Shut-In makes a SHUT-IN allocator HELD,
whatever the cause; Release makes a STARTUP or HELD allocator RUNNING, with one catch-up round when the
missed flag is set, after the waiting rounds that Set Capacity requested (R47, log entry 9), and the queues
tested for issue as they stand when it is clear (R76), the timer left as it was. Each is refused in every
other state. -/
def Obligations.AllocatorRequests : Prop :=
  (∀ (l : Link) (p : Payload) (s : State), Admitted l .hold p s →
     (s.rounds.allocator = .running →
         exec (.hold l p) s =
           .next (answered l 0x25#8 .ok [] { s with rounds := { s.rounds with allocator := .held } })) ∧
       (s.rounds.allocator ≠ .running → exec (.hold l p) s = .next (answered l 0x25#8 .allocState [] s))) ∧
  (∀ (l : Link) (p : Payload) (s : State), Admitted l .releaseShutIn p s →
     (s.rounds.allocator.isShutIn = true →
         exec (.releaseShutIn l p) s =
           .next (answered l 0x28#8 .ok [] { s with rounds := { s.rounds with allocator := .held } })) ∧
       (s.rounds.allocator.isShutIn = false →
         exec (.releaseShutIn l p) s = .next (answered l 0x28#8 .allocState [] s))) ∧
  (∀ (l : Link) (p : Payload) (s : State), Admitted l .release p s →
     let released := fun u : State => { u with rounds := { u.rounds with allocator := .running } }
     (s.rounds.allocator = .startup ∨ s.rounds.allocator = .held →
         (s.rounds.missed = true →
           let t := roundEvent (released (roundsAhead (discarded l s)))
           exec (.release l p) s =
               .next
                 (answered l 0x26#8 .ok ([0x01#8, 0x01#8] ++ leBytes 4 ((s.rounds.computed + 1) % 2 ^ 32))
                   { t with rounds := { t.rounds with missed := false } }) ∧
             t.rounds.nextExpiry = s.rounds.nextExpiry) ∧
         (s.rounds.missed = false →
           exec (.release l p) s =
             .next
               (answered l 0x26#8 .ok ([0x01#8, 0x00#8] ++ leBytes 4 (s.rounds.computed % 2 ^ 32))
                 (issueAll (released (discarded l s)))))) ∧
       (s.rounds.allocator = .running ∨ s.rounds.allocator.isShutIn = true →
         exec (.release l p) s = .next (answered l 0x26#8 .allocState [] s)))

/-- R48, R52, R53: Shut In and a gas-band request enter SHUT-IN with their cause, close the manifold and
notice ShutIn; in SHUT-IN a Shut In sets the cause alone, and a gas-band request changes nothing. The
closing sets every target and commanded position to 0, empties every queue, starts the move of every valve
in service that is not STUCK, and leaves a valve out of service AT REST. -/
def Obligations.EnteringShutIn : Prop :=
  ((∀ (l : Link) (p : Payload) (s : State), Admitted l .shutIn p s →
       let shut := { s with rounds := { s.rounds with allocator := .shutIn .commanded } }
       (s.rounds.allocator.isShutIn = false →
           exec (.shutIn l p) s =
             .next
               (answered l 0x27#8 .ok [0x00#8]
                 { shut with motion := (closeManifold s).motion, links := noticedLinks .shutIn s })) ∧
         (s.rounds.allocator.isShutIn = true →
           exec (.shutIn l p) s = .next (answered l 0x27#8 .ok [0x00#8] shut))) ∧
     ∀ (s : State) (n : Nat), s.rounds.gasBandRequests = n + 1 →
       (s.rounds.allocator.isShutIn = false →
           exec .gasBandRequest s =
             .next
               { s with
                 rounds := { s.rounds with gasBandRequests := n, allocator := .shutIn .gasBand }
                 motion := (closeManifold s).motion
                 links := noticedLinks .shutIn s }) ∧
         (s.rounds.allocator.isShutIn = true →
           exec .gasBandRequest s = .next { s with rounds := { s.rounds with gasBandRequests := n } })) ∧
  (∀ (s : State),
     let t := closeManifold s
     (∀ i : SlotIdx,
         (valveOf t i).target = 0 ∧ (valveOf t i).commanded = 0 ∧
           (valveOf t i).reported = (valveOf s i).reported ∧
           (inService s i = true → (valveOf s i).isStuck = true → (valveOf t i).state = .stuck) ∧
           (inService s i = true → (valveOf s i).isStuck = false → (valveOf t i).state = .moving s.elapsed) ∧
           (inService s i = false → (valveOf t i).state = .atRest)) ∧
       (∀ k : ZoneIdx, t.motion.queues.get k = []) ∧ { t with motion := s.motion } = s)

/-- R56 to R59, R61 to R65, R67: the standing, target and predicted flow that a computed round records for a
slot. The RANKED slots stand in the capacity order; each is granted the lesser of its desired yield and what
the earlier slots of the order left. In pass B's order, richer first, each slot's permitted flow is the least
of its grant and of the two allowances of R64, by the sums of the FIXED slots and of the slots before it; its
target and predicted flow are those of R65, and the record's sums are those after the last slot. The reason of
a CLOSED slot is the first of R58's six in their order: RETIRING; LOCKED, but for a MANUAL slot while the key
line is active; TRIPPED; IN_TEST; NOREADING, when one of c, o and q is absent; STALE, when the oldest of them
is older than the stale limit, an age equal to the limit being none. A locked or tripped slot without
readings stands CLOSED for NOREADING, as R15 says of a new slot, or for the first reason of R58: which of the
two is a free value (log entry 29). -/
def Obligations.RecordedStandings : Prop :=
  (∀ (s : State) (i : SlotIdx),
     let e := (allocate s).entries.get i
     let fixed := (valveOf s i).isStuck || headSilent s i || isPurgeSlot s i
     (lifecycleOf s i = .vacant ↔ e = none) ∧
       (lifecycleOf s i = .retired →
         e = some { standing := .absent, target := 0, flow := 0, grant := none, place := none }) ∧
       (inService s i = true → fixed = true →
         e =
           some
             { standing := .fixed, target := (valveOf s i).target,
               flow :=
                 yieldOf s i * ((readingOf s (·.position) i).map (·.value)).getD (valveOf s i).commanded / 100,
               grant := none, place := none }) ∧
       (∀ r : ClosedReason, inService s i = true → fixed = false → closedReason s i = some r →
         e = some { standing := .closed r, target := 0, flow := 0, grant := none, place := none }) ∧
       (inService s i = true → fixed = false → closedReason s i = none → i ∈ (allocate s).order)) ∧
  (∀ (s : State) (i : SlotIdx),
     let zone := s.plan.active.zones.get (zoneAt s i)
     let manual := ∃ setpoint, (s.plan.roster.get i).mode = .manual setpoint
     let lockedNow :=
       (s.gas.slotLocks.get i = true ∨ s.gas.zoneLocks.get (zoneAt s i) = true) ∧
         ¬(manual ∧ s.gas.keyActive = true)
     let trippedNow := ∃ j, zone.tripLine = some j ∧ (s.trips.lines.get j).state = .latched
     let testing :=
       (∃ t ∈ s.proc.testSet, t.slot = i) ∧ (s.proc.state = .settling ∨ s.proc.state = .measuring)
     let read := fun (c o q : Nat) =>
       ∃ rec, s.scanner.records.get i = some rec ∧ rec.methane.map (·.time) = some c ∧
         rec.oxygen.map (·.time) = some o ∧ rec.flow.map (·.time) = some q
     let limit := ((s.plan.active.entries.get i).staleOverride).getD s.plan.active.staleLimit
     let stale := ∃ c o q, read c o q ∧ min c (min o q) + limit < s.elapsed
     let reason := closedReason s i
     (lifecycleOf s i = .retiring → reason = some .retiring) ∧
       (lifecycleOf s i ≠ .retiring →
         (lockedNow → (∃ c o q, read c o q) → reason = some .locked) ∧
           (¬lockedNow → trippedNow → (∃ c o q, read c o q) → reason = some .tripped) ∧
           (lockedNow → (¬∃ c o q, read c o q) → reason = some .noReading ∨ reason = some .locked) ∧
           (¬lockedNow → trippedNow → (¬∃ c o q, read c o q) →
             reason = some .noReading ∨ reason = some .tripped) ∧
           (¬lockedNow → ¬trippedNow → testing → reason = some .inTest) ∧
           (¬lockedNow → ¬trippedNow → ¬testing → (¬∃ c o q, read c o q) → reason = some .noReading) ∧
           (¬lockedNow → ¬trippedNow → ¬testing → stale → reason = some .stale) ∧
           (¬lockedNow → ¬trippedNow → ¬testing → (∃ c o q, read c o q) → ¬stale → reason = none))) ∧
  (∀ s : State,
     let r := allocate s
     let c := readingOr s (·.methane) 0
     let o := readingOr s (·.oxygen) 0
     let grant := fun i : SlotIdx => ((r.entries.get i).bind (·.grant)).getD 0
     let target := fun i : SlotIdx => ((r.entries.get i).map (·.target)).getD 0
     let flow := fun i : SlotIdx => ((r.entries.get i).map (·.flow)).getD 0
     let stands := fun (i : SlotIdx) (st : Standing) => (r.entries.get i).map (·.standing) == some st
     let richer := fun i j : SlotIdx => c j < c i ∨ (c i = c j ∧ i ≤ j)
     let priority := fun i : SlotIdx => (s.plan.active.entries.get i).priority
     let desired := fun i : SlotIdx =>
       let uMax := (s.plan.active.entries.get i).uMax
       let d :=
         match (s.plan.roster.get i).mode with
         | .auto => uMax
         | .manual setpoint => min setpoint uMax
       match s.trips.ceilings.get (zoneAt s i) with
       | some ceiling => min d ceiling
       | none => d
     let fixed : Sums :=
       (allSlots.filter fun i => stands i .fixed).foldl
         (fun t i => t.add (flow i) (c i) (readingOr s (·.oxygen) 210 i)) { f := 0, m := 0, x := 0 }
     (r.order.Nodup ∧ (∀ i, i ∈ r.order ↔ stands i .ranked = true) ∧
         r.order.Pairwise fun i j => priority j < priority i ∨ (priority i = priority j ∧ richer i j)) ∧
       (∀ before i after, r.order = before ++ i :: after →
         ∃ e, r.entries.get i = some e ∧ e.standing = .ranked ∧ e.place = some (before.length + 1) ∧
           e.grant =
             some (min (yieldOf s i * desired i / 100) (s.rounds.capacity - fixed.f - (before.map grant).sum))) ∧
       ∃ richest : List SlotIdx, richest.Perm r.order ∧ richest.Pairwise richer ∧
         (let sums := fun before : List SlotIdx =>
            before.foldl (fun t i => t.add (flow i) (c i) (o i)) fixed
          ({ f := r.sumF, m := r.sumM, x := r.sumX } : Sums) = sums richest ∧
            ∀ before i after, richest = before ++ i :: after →
              let t := sums before
              let floor := s.gas.effectiveFloor
              let ceiling := s.gas.limits.oCeil
              let mixed :=
                if floor ≤ c i then grant i
                else if floor * t.f ≤ t.m then min (grant i) ((t.m - floor * t.f) / (floor - c i))
                else 0
              let allowed :=
                if o i ≤ ceiling then mixed
                else if t.x ≤ ceiling * t.f then min mixed ((ceiling * t.f - t.x) / (o i - ceiling))
                else 0
              let u := allowed * 100 / yieldOf s i
              target i = (if u < (s.plan.active.entries.get i).uMin then 0 else u) ∧
                flow i = yieldOf s i * target i / 100))

/-- R66: the capacity, blend, oxygen and target laws of every allocation record, the FIXED contributions
being those of R57. -/
def Obligations.AllocationLaws : Prop :=
  ∀ s : State,
    let r := allocate s
    let f := fixedSums s
    let q := r.capacity
    let ranked := fun (i : SlotIdx) (u : Nat) =>
      ∃ e, r.entries.get i = some e ∧ e.standing = .ranked ∧ e.target = u
    (r.sumF ≤ q ∨ (q < f.f ∧ ∀ i u, ranked i u → u = 0)) ∧
      (r.floor * r.sumF ≤ r.sumM ∨
        (f.m < r.floor * f.f ∧ ∀ i u, ranked i u → readingOr s (·.methane) 0 i < r.floor → u = 0)) ∧
      (r.sumX ≤ r.ceiling * r.sumF ∨
        (r.ceiling * f.f < f.x ∧ ∀ i u, ranked i u → r.ceiling < readingOr s (·.oxygen) 0 i → u = 0)) ∧
      (∀ i u, ranked i u →
        u = 0 ∨
          ((s.plan.active.entries.get i).uMin ≤ u ∧ u ≤ desiredOpening s i ∧
            u ≤ (s.plan.active.entries.get i).uMax ∧
            (∀ sp, (s.plan.roster.get i).mode = .manual sp → u ≤ sp) ∧
            ∀ ceiling, s.trips.ceilings.get (zoneAt s i) = some ceiling → u ≤ ceiling)) ∧
      (∀ i e reason, r.entries.get i = some e → e.standing = .closed reason → e.target = 0) ∧
      ∀ i e, r.entries.get i = some e → e.standing = .fixed → e.target = (valveOf s i).target

/-! ## Valve motion (chapter 4) -/

/-- R81: an urgent close of the chosen slots, by lifecycle and valve state; the queues lose their entries
and nothing else changes. -/
def Obligations.UrgentClose : Prop :=
  ∀ (sel : SlotIdx → Bool) (s : State),
    let t := urgentClose sel s
    (∀ i : SlotIdx, sel i = false → valveOf t i = valveOf s i) ∧
      (∀ i : SlotIdx, sel i = true →
        (valveOf t i).target = 0 ∧ (valveOf t i).commanded = 0 ∧
          (valveOf t i).reported = (valveOf s i).reported ∧
          (inService s i = true → (valveOf s i).isStuck = true → (valveOf t i).state = .stuck) ∧
          (inService s i = true → (valveOf s i).isStuck = false → (valveOf t i).state = .moving s.elapsed) ∧
          (inService s i = false → (valveOf t i).state = .atRest)) ∧
      (∀ k : ZoneIdx, t.motion.queues.get k = (s.motion.queues.get k).filter fun e => !sel e.slot) ∧
      { t with motion := s.motion } = s

/-- R73 and R74: what a round's handed targets make of each slot's valve record and of its queue entries,
and the order in which every queue then stands. -/
def Obligations.HandedTargets : Prop :=
  ∀ (s : State) (round : Nat) (hands : SlotIdx → Option Nat) (place : SlotIdx → Nat),
    let t := handTargets round hands place s
    (∀ i : SlotIdx,
        let v := valveOf s i
        let entries := fun k : ZoneIdx => (t.motion.queues.get k).filter fun e => e.slot == i
        let only := fun (e : QueueEntry) (k : ZoneIdx) => entries k = if k = zoneAt s i then [e] else []
        (hands i = none →
            valveOf t i = v ∧ ∀ k, (entries k).Perm ((s.motion.queues.get k).filter fun e => e.slot == i)) ∧
          ∀ u, hands i = some u →
            valveOf t i = { v with target := u } ∧
              (u < v.commanded → ∀ k, only { slot := i, kind := .closing, position := u } k) ∧
              (v.commanded < u → ∀ k,
                only
                  { slot := i, kind := .opening round (place i),
                    position := min u (v.commanded + (zoneRecordAt s i).ramp) }
                  k) ∧
              (u = v.commanded → ∀ k, entries k = [])) ∧
      (∀ k : ZoneIdx, (t.motion.queues.get k).Pairwise fun a b => entryBefore a b = true) ∧
      { t with motion := s.motion } = s

/-- R75 and R77: an entry is issued only while the zone's MOVING count is below its stepping count, so that
after the issue it is at most the stepping count; the issue removes the entry, sends the valve to its
position and starts its move. Entries are issued until the test fails, and each issue takes the first entry
in queue order that may be issued. -/
def Obligations.IssueLaw : Prop :=
  (∀ (s : State) (k : ZoneIdx) (e : QueueEntry), nextIssue s k = some e →
     let t := issueEntry k e s
     (∀ n, (s.plan.active.zones.get k).stepping.limit = some n → movingCount t k ≤ n) ∧
       (valveOf s e.slot).isMoving = false ∧ (e.kind = .closing ∨ running s = true) ∧
       (∃ passed later, s.motion.queues.get k = passed ++ e :: later ∧
         ∀ x ∈ passed, (valveOf s x.slot).isMoving = true ∨ (x.kind ≠ .closing ∧ running s = false)) ∧
       t.motion.queues.get k = (s.motion.queues.get k).erase e ∧
       valveOf t e.slot = { valveOf s e.slot with commanded := e.position, state := .moving s.elapsed } ∧
       (∀ i, i ≠ e.slot → valveOf t i = valveOf s i) ∧ { t with motion := s.motion } = s) ∧
  (∀ (s : State) (k : ZoneIdx),
     nextIssue (issueZone k s) k = none ∧
       ((issueZone k s).motion.queues.get k).Sublist (s.motion.queues.get k) ∧
       (∀ j, j ≠ k → (issueZone k s).motion.queues.get j = s.motion.queues.get j) ∧
       ∀ i, (∀ e ∈ s.motion.queues.get k, e.slot ≠ i) → valveOf (issueZone k s) i = valveOf s i)

/-- R79, R131, R133: a move whose age has reached the travel timeout makes the valve STUCK, with its queue
entry removed and ValveFault noticed, its target and commanded position as they were, and the zone is tested
for issue. A slot of a settling test then leaves it as R131 says; outside SETTLING, a measuring test included,
and for a slot outside the set, no procedure changes. A move that has not reached it is left. -/
def Obligations.TravelTimeout : Prop :=
  ∀ (s : State) (i : SlotIdx) (start : Nat), (valveOf s i).state = .moving start →
    let stuck := { valveOf s i with state := .stuck }
    (start + s.plan.active.travelTimeout ≤ s.elapsed →
        ∃ t, exec (.travelTimeout i) s = .next t ∧
          valveOf t i = stuck ∧ Noticed .valveFault t ∧
          (∀ k, ∀ e ∈ t.motion.queues.get k, e.slot ≠ i) ∧
          t.motion =
            (issueZone (zoneAt s i)
              (removeEntries (fun j => j == i)
                { s with motion := { s.motion with valves := s.motion.valves.set i stuck } })).motion ∧
          { t with links := s.links, motion := s.motion, proc := s.proc } = s ∧
          (s.proc.state ≠ .settling ∨ inTestSet s i = false →
            t.proc = s.proc ∧ t.links = noticedLinks .valveFault s) ∧
          (s.proc.state = .settling → inTestSet s i = true →
            let u := dropStuck i { s with links := noticedLinks .valveFault s }
            t.proc = u.proc ∧ t.links = u.links)) ∧
      (s.elapsed < start + s.plan.active.travelTimeout → exec (.travelTimeout i) s = .next s)

/-- R84: Clear Valve Fault needs a STUCK valve; it closes the valve again in the first situation, and in the
others holds it where its head last put it. -/
def Obligations.ClearValveFault : Prop :=
  ∀ (l : Link) (p : Payload) (s : State) (i : SlotIdx),
    Admitted l .clearValveFault p s → slotOf (u8 p 0) = some i →
      let first :=
        s.rounds.allocator = .startup ∨ s.rounds.allocator.isShutIn = true ∨ lifecycleOf s i = .retiring ∨
          (locked s i = true ∧ ¬(inManual s i = true ∧ s.gas.keyActive = true)) ∨ tripped s i = true ∨
          (inTestSet s i = true ∧ (s.proc.state = .settling ∨ s.proc.state = .measuring))
      let rested := fun v : Valve =>
        { discarded l s with motion := { s.motion with valves := s.motion.valves.set i v } }
      ((valveOf s i).state ≠ .stuck →
          exec (.clearValveFault l p) s = .next (answered l 0x35#8 .valveState [] s)) ∧
        ((valveOf s i).state = .stuck → first →
          exec (.clearValveFault l p) s =
            .next
              (answered l 0x35#8 .ok []
                (issueZone (zoneAt s i)
                  (urgentClose (fun j => j == i) (rested { valveOf s i with state := .atRest }))))) ∧
        ((valveOf s i).state = .stuck → ¬first →
          (∀ q, (valveOf s i).reported = some q →
            exec (.clearValveFault l p) s =
              .next
                (answered l 0x35#8 .ok []
                  (rested { valveOf s i with target := q, commanded := q, state := .atRest }))) ∧
          ((valveOf s i).reported = none →
            exec (.clearValveFault l p) s =
              .next
                (answered l 0x35#8 .ok []
                  (rested { valveOf s i with target := (valveOf s i).commanded, state := .atRest }))))

/-- R86 and R87: Set Manual, decided in its order, and Clear Manual; neither touches a valve or a queue. -/
def Obligations.ManualMode : Prop :=
  ∀ (l : Link) (p : Payload) (s : State) (i : SlotIdx), slotOf (u8 p 0) = some i →
    let inMode := fun m : Mode =>
      { s with plan := { s.plan with roster := s.plan.roster.set i { s.plan.roster.get i with mode := m } } }
    let active := lifecycleOf s i = .active
    let busy := inTestSet s i = true ∨ isPurgeSlot s i = true
    let stuck := (valveOf s i).isStuck = true
    let barred := locked s i = true ∧ s.gas.keyActive = false
    (Admitted l .setManual p s →
        let refused := fun r : Result => exec (.setManual l p) s = .next (answered l 0x33#8 r [] s)
        let setpoint := min 100 (u8 p 1)
        (¬active → refused .slotState) ∧ (active → busy → refused .slotInProcedure) ∧
          (active → ¬busy → stuck → refused .valveFault) ∧
          (active → ¬busy → ¬stuck → barred → refused .keyRequired) ∧
          (active → ¬busy → ¬stuck → ¬barred →
            exec (.setManual l p) s =
              .next
                (answered l 0x33#8 (okUnless (setpoint ≠ u8 p 1)) [byteOf (slotNum i), 0x01#8, byteOf setpoint]
                  (inMode (.manual setpoint))))) ∧
      (Admitted l .clearManual p s →
        (¬active → exec (.clearManual l p) s = .next (answered l 0x34#8 .slotState [] s)) ∧
          (active → exec (.clearManual l p) s = .next (answered l 0x34#8 .ok [] (inMode .auto))))

/-! ## Gas limits and locks (chapter 5) -/

/-- R92, R94: the six limits as Set Limits clamps them, in its order, and the one round it requests when a
limit tightens. The reply carries the limits and the effective floor of R91. -/
def Obligations.SetLimits : Prop :=
  ∀ (l : Link) (p : Payload) (s : State), Admitted l .setLimits p s →
    let cFloor := max 250 (min 900 (u16 p 0))
    let oCeil := max 5 (min 50 (u8 p 2))
    let aFloor := min cFloor (max 200 (u16 p 3))
    let aO2 := min 80 (max oCeil (u8 p 5))
    let margin := min 200 (u8 p 6)
    let k := max 1 (min 10 (u8 p 7))
    let old := s.gas.limits
    let raised := s.gas.alarm.isRaised = true
    let tighter := old.cFloor < cFloor ∨ oCeil < old.oCeil ∨ (raised ∧ old.margin < margin)
    let floor := if raised then min 900 (cFloor + margin) else cFloor
    exec (.setLimits l p) s =
      .next
        (answered l 0x20#8
          (okUnless
            (cFloor ≠ u16 p 0 ∨ oCeil ≠ u8 p 2 ∨ aFloor ≠ u16 p 3 ∨ aO2 ≠ u8 p 5 ∨ margin ≠ u8 p 6 ∨ k ≠ u8 p 7))
          (leBytes 2 cFloor ++ leBytes 1 oCeil ++ leBytes 2 aFloor ++ leBytes 1 aO2 ++ leBytes 1 margin ++
            leBytes 1 k ++ leBytes 2 floor)
          { s with
            gas :=
              { s.gas with
                limits :=
                  { cFloor := cFloor, oCeil := oCeil, aFloor := aFloor, aO2 := aO2, margin := margin,
                    alarmCount := k } }
            rounds := { s.rounds with requests := requestsAfter (decide tighter) s.rounds.requests } })

/-- R95 to R99: placing a lock closes urgently what it locks, removing one gives no valve command; a slot is
locked when its number is in the slot lock set or its zone in the active plan is in the zone lock set; a
command that is neither a reset nor one of the four lock commands, and does not bring a request frame's
bytes, leaves both sets as they were. -/
def Obligations.Locks : Prop :=
  (∀ (l : Link) (p : Payload) (s : State),
     let slotLock := fun (i : SlotIdx) (b : Bool) =>
       { discarded l s with gas := { s.gas with slotLocks := s.gas.slotLocks.set i b } }
     let zoneLock := fun (k : ZoneIdx) (b : Bool) =>
       { discarded l s with gas := { s.gas with zoneLocks := s.gas.zoneLocks.set k b } }
     (∀ i : SlotIdx, slotOf (u8 p 0) = some i →
         (Admitted l .lockSlot p s →
           exec (.lockSlot l p) s =
             .next
               (answered l 0x21#8 .ok []
                 (issueZone (zoneAt s i) (urgentClose (fun j => j == i) (slotLock i true))))) ∧
         (Admitted l .unlockSlot p s →
           exec (.unlockSlot l p) s = .next (answered l 0x22#8 .ok [] (slotLock i false)))) ∧
       ∀ k : ZoneIdx, zoneOfNum (u8 p 0) = some k →
         (Admitted l .lockZone p s →
           exec (.lockZone l p) s =
             .next
               (answered l 0x23#8 .ok []
                 (issueZone k
                   (urgentClose (fun i => zoneAt s i == k && lifecycleOf s i != .vacant) (zoneLock k true))))) ∧
         (Admitted l .unlockZone p s →
           exec (.unlockZone l p) s = .next (answered l 0x24#8 .ok [] (zoneLock k false)))) ∧
  ((∀ (s : State) (i : SlotIdx),
       locked s i = true ↔ s.gas.slotLocks.get i = true ∨ s.gas.zoneLocks.get (zoneAt s i) = true) ∧
     ∀ (c : Instr) (s t : State), exec c s = .next t → c ≠ .reset →
       (∀ l p, c ≠ .lockSlot l p ∧ c ≠ .unlockSlot l p ∧ c ≠ .lockZone l p ∧ c ≠ .unlockZone l p) →
       (∀ l code p, c ≠ .unknownCommand l code p) →
       (∀ l body crc, c ≠ .frameCrcDiscard l body crc) →
       (∀ l b, c ≠ .frameLengthDiscard l b ∧ c ≠ .linkByteReceived l b) →
       t.gas.slotLocks = s.gas.slotLocks ∧ t.gas.zoneLocks = s.gas.zoneLocks)

/-- R26, R36, R101 to R106: a reply taken from the manifold head renews the manifold's reading record, each of
c, o and q with its time when its flag is clear, and is delivered to the Gas Limit Monitor: the mix alarm, the
manifold watch and the gas band each take the reading, and the next poll is sent. -/
def Obligations.ManifoldDelivery : Prop :=
  ∀ (s : State) (p : Poll) (bytes : List Byte) (r : HeadReply),
    s.scanner.poll = some p → p.head = .manifold → replyTo .manifold bytes = some r →
      let c := min 1000 r.c
      let o := min 250 r.o
      let good := r.faults.methane = false ∧ r.faults.oxygen = false
      let out := ¬good ∨ c < s.gas.limits.aFloor ∨ s.gas.limits.aO2 < o
      let k := s.gas.limits.alarmCount
      let g := s.gas
      let low := r.faults.methane = false ∧ c < 200
      let now := fun v : Nat => some { value := v, time := s.elapsed : Stamped }
      ∃ t : State, exec (.fieldReplyTaken bytes) s = .next t ∧
        t.scanner.manifoldHead = { state := .responding, misses := 0 } ∧
        t.scanner.manifold =
          { methane := if r.faults.methane = false then now c else s.scanner.manifold.methane
            oxygen := if r.faults.oxygen = false then now o else s.scanner.manifold.oxygen
            flow := if r.faults.flow = false then now (min 1200000 r.q) else s.scanner.manifold.flow
            pressure := now (min 20000 r.pressure)
            faults :=
              some
                { methane := r.faults.methane, oxygen := r.faults.oxygen, flow := r.faults.flow,
                  valve := false } } ∧
        t.scanner.poll = (sendNext s).scanner.poll ∧ t.scanner.remaining = (sendNext s).scanner.remaining ∧
        t.scanner.heads = s.scanner.heads ∧
        (g.alarm = .clear → ¬out →
          t.gas.alarm = .clear ∧ t.gas.outCount = 0 ∧ t.gas.inCount = g.inCount ∧ t.links = s.links ∧
            t.rounds.requests = s.rounds.requests) ∧
        (g.alarm = .clear → out → g.outCount + 1 < k →
          t.gas.alarm = .clear ∧ t.gas.outCount = g.outCount + 1 ∧ t.links = s.links ∧
            t.rounds.requests = s.rounds.requests) ∧
        (g.alarm = .clear → out → k ≤ g.outCount + 1 →
          t.gas.alarm = .raised .readings ∧ t.gas.outCount = 0 ∧ t.gas.inCount = 0 ∧
            t.links = noticedLinks .mixAlarm s ∧ t.rounds.requests = s.rounds.requests + 1) ∧
        (∀ a, g.alarm = .raised a → out →
          t.gas.alarm = .raised a ∧ t.gas.inCount = 0 ∧ t.links = s.links ∧
            t.rounds.requests = s.rounds.requests) ∧
        (∀ a, g.alarm = .raised a → ¬out → g.inCount + 1 < k →
          t.gas.alarm = .raised a ∧ t.gas.inCount = g.inCount + 1 ∧ t.links = s.links ∧
            t.rounds.requests = s.rounds.requests) ∧
        (∀ a, g.alarm = .raised a → ¬out → k ≤ g.inCount + 1 →
          t.gas.alarm = .clear ∧ t.gas.outCount = 0 ∧ t.gas.inCount = 0 ∧
            t.links = noticedLinks .mixCleared s ∧ t.rounds.requests = s.rounds.requests) ∧
        (good → t.gas.watchRef = s.elapsed ∧ t.gas.watch = .armed) ∧
        (¬good → t.gas.watchRef = g.watchRef ∧ t.gas.watch = g.watch) ∧
        (¬low → t.gas.bandCount = 0 ∧ t.rounds.gasBandRequests = s.rounds.gasBandRequests) ∧
        (low → g.bandCount = 0 →
          t.gas.bandCount = 1 ∧ t.rounds.gasBandRequests = s.rounds.gasBandRequests) ∧
        (low → g.bandCount ≠ 0 →
          t.gas.bandCount = 0 ∧ t.rounds.gasBandRequests = s.rounds.gasBandRequests + 1) ∧
        t.gas.limits = g.limits ∧ t.gas.slotLocks = g.slotLocks ∧ t.gas.zoneLocks = g.zoneLocks ∧
        t.plan = s.plan ∧ t.motion = s.motion ∧ t.trips = s.trips ∧ t.proc = s.proc ∧ t.store = s.store ∧
        t.elapsed = s.elapsed ∧ t.scanner.records = s.scanner.records

/-- R104: the manifold watch, ARMED and 60 s past its reference, becomes SPENT and raises the alarm if it is
CLEAR; before that, and while SPENT, it does not expire (log entry 5). -/
def Obligations.ManifoldWatchExpiry : Prop :=
  ∀ s : State,
    (s.gas.watch = .armed → s.gas.watchRef + 60 ≤ s.elapsed →
        (s.gas.alarm = .clear →
          exec .manifoldWatchExpiry s =
            .next
              { s with
                gas :=
                  { s.gas with watch := .spent, alarm := .raised .noManifold, outCount := 0, inCount := 0 }
                rounds := { s.rounds with requests := s.rounds.requests + 1 }
                links := noticedLinks .mixAlarm s }) ∧
        (s.gas.alarm.isRaised = true →
          exec .manifoldWatchExpiry s = .next { s with gas := { s.gas with watch := .spent } })) ∧
      (s.gas.watch = .spent ∨ s.elapsed < s.gas.watchRef + 60 → exec .manifoldWatchExpiry s = .next s)

/-- R108 and R88: the key input and its debounce; a line going INACTIVE returns every locked MANUAL slot to
AUTO and closes it urgently. A debounce expiry while none runs leaves the state as it was (log entry 5). -/
def Obligations.OverrideKey : Prop :=
  ∀ s : State,
    (∀ closed : Bool,
        exec (.keyInputChange closed) s = .next { s with gas := { s.gas with keySwitchClosed := closed } }) ∧
      (s.gas.keySwitchClosed = s.gas.keyActive → exec .keyDebounceExpiry s = .next s) ∧
      (s.gas.keySwitchClosed = true → s.gas.keyActive = false →
        exec .keyDebounceExpiry s = .next { s with gas := { s.gas with keyActive := true } }) ∧
      (s.gas.keySwitchClosed = false → s.gas.keyActive = true →
        let freed := fun i : SlotIdx => inManual s i && locked s i
        ∃ roster : Table 60 Roster,
          (∀ i, roster.get i =
            if freed i then { s.plan.roster.get i with mode := .auto } else s.plan.roster.get i) ∧
          exec .keyDebounceExpiry s =
            .next
              (issueAll
                (urgentClose freed
                  { s with
                    gas := { s.gas with keyActive := false }, plan := { s.plan with roster := roster } })))

/-! ## Trip lines and quiet windows (chapter 6) -/

/-- R112, R113, R115: a contact and its debounce; an ARMED line latches when its debounced input becomes
ACTIVE, and closes the slots of the zones that name it; a slot is tripped exactly when the trip line of its
zone in the active plan is LATCHED. A debounce expiry while none runs leaves the state as it was (log entry
5). -/
def Obligations.TripLines : Prop :=
  (∀ (s : State) (j : LineIdx),
     let ln := s.trips.lines.get j
     let withLine := fun x : TripLine => { s with trips := { s.trips with lines := s.trips.lines.set j x } }
     (∀ closed : Bool,
         exec (.tripContactChange j closed) s = .next (withLine { ln with contactClosed := closed })) ∧
       (ln.contactClosed = ln.inputActive → exec (.tripDebounceExpiry j) s = .next s) ∧
       (ln.contactClosed = false → ln.inputActive = true →
         exec (.tripDebounceExpiry j) s = .next (withLine { ln with inputActive := false })) ∧
       (ln.contactClosed = true → ln.inputActive = false → ln.state ≠ .armed →
         exec (.tripDebounceExpiry j) s = .next (withLine { ln with inputActive := true })) ∧
       (ln.contactClosed = true → ln.inputActive = false → ln.state = .armed →
         exec (.tripDebounceExpiry j) s =
           .next
             (raise .tripLatched
               (issueAll
                 (urgentClose
                   (fun i => lifecycleOf s i != .vacant && (zoneRecordAt s i).tripLine == some j)
                   (withLine { state := .latched, contactClosed := true, inputActive := true })))))) ∧
  (∀ (s : State) (i : SlotIdx),
     tripped s i = true ↔
       ∃ j : LineIdx, (s.plan.active.zones.get (zoneAt s i)).tripLine = some j ∧
         (s.trips.lines.get j).state = .latched)

/-- R114: Re-arm and Disarm by the line state and the debounced input; neither gives a valve command. -/
def Obligations.ReArmAndDisarm : Prop :=
  ∀ (l : Link) (p : Payload) (s : State),
    (∀ j : LineIdx, u8 p 0 = j.val + 1 →
        let ln := s.trips.lines.get j
        let inState := fun x : LineState =>
          { s with trips := { s.trips with lines := s.trips.lines.set j { ln with state := x } } }
        (Admitted l .disarm p s →
          exec (.disarm l p) s = .next (answered l 0x2A#8 .ok [0x02#8, flagByte ln.inputActive] (inState .disarmed))) ∧
        (Admitted l .reArm p s → ln.inputActive = false →
          exec (.reArm l p) s = .next (answered l 0x29#8 .ok [0x00#8, 0x00#8] (inState .armed))) ∧
        (Admitted l .reArm p s → ln.inputActive = true → ln.state ≠ .armed →
          exec (.reArm l p) s = .next (answered l 0x29#8 .lineActive [ln.state.byte, 0x01#8] s))) ∧
      (u8 p 0 = 0 ∨ 4 < u8 p 0 →
        (Admitted l .disarm p s → exec (.disarm l p) s = .next (answered l 0x2A#8 .badValue [] s)) ∧
          (Admitted l .reArm p s → exec (.reArm l p) s = .next (answered l 0x29#8 .badValue [] s)))

/-- R117 and R118: each advance of the elapsed-seconds count advances the drainage clock one second, with
its carries; the advance from second 59 makes a minute rollover due unless the unset flag is set. Set Clock
takes four values in their ranges, clears the unset flag and any rollover that was due; a value outside its
range refuses it. -/
def Obligations.DrainageClock : Prop :=
  (∀ s : State,
     let c := s.trips.clock
     let ticked := fun (d : Clock) (due : List Clock) =>
       { s with elapsed := s.elapsed + 1, trips := { s.trips with clock := d, rolloversDue := due } }
     let rolled := fun d : Clock =>
       exec .drainageClockAdvance s =
         .next (ticked d (if s.trips.unset then s.trips.rolloversDue else s.trips.rolloversDue ++ [d]))
     c.inRange = true →
       (c.second < 59 →
           exec .drainageClockAdvance s = .next (ticked { c with second := c.second + 1 } s.trips.rolloversDue)) ∧
         (c.second = 59 → c.minute < 59 → rolled { c with minute := c.minute + 1, second := 0 }) ∧
         (c.second = 59 → c.minute = 59 → c.hour < 23 →
           rolled { c with hour := c.hour + 1, minute := 0, second := 0 }) ∧
         (c.second = 59 → c.minute = 59 → c.hour = 23 → c.weekday < 7 →
           rolled { weekday := c.weekday + 1, hour := 0, minute := 0, second := 0 }) ∧
         (c.second = 59 → c.minute = 59 → c.hour = 23 → c.weekday = 7 →
           rolled { weekday := 1, hour := 0, minute := 0, second := 0 })) ∧
  (∀ (l : Link) (p : Payload) (s : State), Admitted l .setClock p s →
     let c : Clock := { weekday := u8 p 0, hour := u8 p 1, minute := u8 p 2, second := u8 p 3 }
     let ok := (1 ≤ c.weekday ∧ c.weekday ≤ 7) ∧ c.hour ≤ 23 ∧ c.minute ≤ 59 ∧ c.second ≤ 59
     (ok →
         exec (.setClock l p) s =
           .next
             (answered l 0x19#8 .ok
               (leBytes 1 c.weekday ++ leBytes 1 c.hour ++ leBytes 1 c.minute ++ leBytes 1 c.second)
               { s with trips := { s.trips with clock := c, unset := false, rolloversDue := [] } })) ∧
       (¬ok → exec (.setClock l p) s = .next (answered l 0x19#8 .badValue [] s)))

/-- R119 and R120: Set Window refuses what lies outside its ranges, clamps the duration and the ceiling,
writes the entry whole and ends the occurrence it had, deriving the ceilings again. -/
def Obligations.SetWindow : Prop :=
  ∀ (l : Link) (p : Payload) (s : State), Admitted l .setWindow p s →
    let any := fun v : Nat => if v = 255 then none else some v
    let ok :=
      u8 p 1 ≤ 1 ∧ (u8 p 2 = 255 ∨ (1 ≤ u8 p 2 ∧ u8 p 2 ≤ 7)) ∧ (u8 p 3 = 255 ∨ u8 p 3 ≤ 23) ∧ u8 p 4 ≤ 59 ∧
        u16 p 6 < 1024
    let duration := max 1 (min 240 (u8 p 5))
    let ceiling := min 100 (u8 p 8)
    (∀ w : WindowIdx, u8 p 0 = w.val + 1 → ok →
        let e : WindowEntry :=
          { enabled := decide (u8 p 1 = 1), weekday := any (u8 p 2), hour := any (u8 p 3), minute := u8 p 4,
            duration := duration, zones := BitVec.ofNat 10 (u16 p 6), ceiling := ceiling }
        let windows := s.trips.windows.set w { entry := e, remaining := none }
        let reply :=
          answered l 0x1A#8 (okUnless (duration ≠ u8 p 5 ∨ ceiling ≠ u8 p 8))
            (p.take 5 ++ leBytes 1 duration ++ (p.drop 6).take 2 ++ leBytes 1 ceiling)
        ((s.trips.windows.get w).remaining = none →
            exec (.setWindow l p) s = .next (reply { s with trips := { s.trips with windows := windows } })) ∧
          ((s.trips.windows.get w).remaining.isSome = true →
            exec (.setWindow l p) s =
              .next
                (reply
                  { s with
                    links := noticedLinks .windowChange s
                    trips :=
                      { s.trips with
                        windows := windows, ceilings := Table.tabulate (quietCeiling windows) } }))) ∧
      (u8 p 0 = 0 ∨ 8 < u8 p 0 ∨ ¬ok → exec (.setWindow l p) s = .next (answered l 0x1A#8 .badValue [] s))

/-- R121 to R123: a minute rollover that is due takes every entry through it on its own; after an opening or
an ending the ceilings are derived again and WindowChange is noticed, and after an opening one round is
requested. A zone's quiet ceiling is the lowest ceiling among the active occurrences whose zone set names
it, and absent when none does. A rollover with none due leaves the state as it was (log entries 5 and 10). -/
def Obligations.MinuteRollover : Prop :=
  (∀ (s : State),
     (s.trips.rolloversDue = [] → exec .minuteRollover s = .next s) ∧
       ∀ (c : Clock) (rest : List Clock), s.trips.rolloversDue = c :: rest →
         let hits := fun e : WindowEntry =>
           e.enabled = true ∧ e.minute = c.minute ∧ (e.hour = none ∨ e.hour = some c.hour) ∧
             (e.weekday = none ∨ e.weekday = some c.weekday)
         let opens := fun w : WindowIdx =>
           hits (s.trips.windows.get w).entry ∧ (s.trips.windows.get w).remaining = none
         let ends := fun w : WindowIdx =>
           ¬hits (s.trips.windows.get w).entry ∧ ∃ m, (s.trips.windows.get w).remaining = some m ∧ m ≤ 1
         ∃ t : State, exec .minuteRollover s = .next t ∧
           (∀ w : WindowIdx,
             let v := s.trips.windows.get w
             (hits v.entry → t.trips.windows.get w = { v with remaining := some v.entry.duration }) ∧
               (¬hits v.entry →
                 (∀ m, v.remaining = some m → 1 < m →
                     t.trips.windows.get w = { v with remaining := some (m - 1) }) ∧
                   (∀ m, v.remaining = some m → m ≤ 1 → t.trips.windows.get w = { v with remaining := none }) ∧
                   (v.remaining = none → t.trips.windows.get w = v))) ∧
           ((∃ w, opens w ∨ ends w) →
             t.links = noticedLinks .windowChange s ∧
               t.trips.ceilings = Table.tabulate (quietCeiling t.trips.windows)) ∧
           ((¬∃ w, opens w ∨ ends w) → t.links = s.links ∧ t.trips.ceilings = s.trips.ceilings) ∧
           ((∃ w, opens w) → t.rounds = { s.rounds with requests := s.rounds.requests + 1 }) ∧
           ((¬∃ w, opens w) → t.rounds = s.rounds) ∧
           t.trips.rolloversDue = rest ∧ t.trips.lines = s.trips.lines ∧ t.trips.clock = s.trips.clock ∧
           t.trips.unset = s.trips.unset ∧
           { t with links := s.links, rounds := s.rounds, trips := s.trips } = s) ∧
  (∀ (ws : Table 8 Window) (k : ZoneIdx),
     let names := fun w : WindowIdx =>
       (ws.get w).remaining.isSome = true ∧ (ws.get w).entry.zones.getLsbD k.val = true
     (quietCeiling ws k = none ↔ ∀ w, ¬names w) ∧
       ∀ c, quietCeiling ws k = some c ↔
         (∃ w, names w ∧ (ws.get w).entry.ceiling = c) ∧ ∀ w, names w → c ≤ (ws.get w).entry.ceiling)

/-! ## Borehole procedures (chapter 7) -/

/-- R127 to R129: the seven conditions of a slot's fitness for a test; Begin Test, decided in its order,
whose acceptance starts the gathering window of 20 s; Add Test Slot, decided in its order, whose acceptance
restarts the window and whose refusal does not. That the set places of the reply stand in the order of joining
is log entry 26. -/
def Obligations.GatheringATest : Prop :=
  (∀ (s : State) (i : SlotIdx),
     fit s i = true ↔
       lifecycleOf s i = .active ∧ inManual s i = false ∧ locked s i = false ∧ tripped s i = false ∧
         ((valveOf s i).isStuck = false ∧ headResponding s i = true) ∧
         (∃ c o q, readingOf s (·.methane) i = some c ∧ readingOf s (·.oxygen) i = some o ∧
           readingOf s (·.flow) i = some q) ∧
         ∃ (r : AllocRecord) (e : AllocEntry), s.rounds.record = some r ∧ r.entries.get i = some e ∧
           e.standing ≠ .absent ∧ e.standing ≠ .fixed ∧ e.standing ≠ .closed .retiring ∧
           e.standing ≠ .closed .stale ∧ e.standing ≠ .closed .noReading) ∧
  (∀ (l : Link) (p : Payload) (s : State) (i : SlotIdx), Admitted l .beginTest p s → slotOf (u8 p 0) = some i →
     let d := max 60 (min 1800 (u16 p 1))
     (s.proc.state ≠ .idle → exec (.beginTest l p) s = .next (answered l 0x36#8 .procBusy [] s)) ∧
       (s.proc.state = .idle → fit s i = false →
         exec (.beginTest l p) s = .next (answered l 0x36#8 .slotUnfit [] s)) ∧
       (s.proc.state = .idle → fit s i = true →
         exec (.beginTest l p) s =
           .next
             (answered l 0x36#8 (okUnless (d ≠ u16 p 1))
               ([0x01#8, 0x01#8, byteOf (slotNum i)] ++ List.replicate 7 0x00#8 ++ leBytes 2 d ++ [0x14#8, 0x00#8])
               { s with
                 proc :=
                   { s.proc with
                     state := .gathering
                     testSet := [{ slot := i, sealedMark := false, startPressure := none }]
                     duration := some d
                     gatherExpiry := some (s.elapsed + 20)
                     errorFlag := false } }))) ∧
  (∀ (l : Link) (p : Payload) (s : State) (i : SlotIdx),
     Admitted l .addTestSlot p s → slotOf (u8 p 0) = some i →
       let refused := fun r : Result => exec (.addTestSlot l p) s = .next (answered l 0x37#8 r [] s)
       let taken := fun ts : List TestPlace =>
         exec (.addTestSlot l p) s =
           .next
             (answered l 0x37#8 .ok
               (byteOf ts.length :: setSlots ts ++ [0x14#8, 0x00#8])
               { s with proc := { s.proc with testSet := ts, gatherExpiry := some (s.elapsed + 20) } })
       (s.proc.state ≠ .gathering → refused .notGathering) ∧
         (s.proc.state = .gathering → inTestSet s i = true → taken s.proc.testSet) ∧
         (s.proc.state = .gathering → inTestSet s i = false → 8 ≤ s.proc.testSet.length → refused .setFull) ∧
         (s.proc.state = .gathering → inTestSet s i = false → s.proc.testSet.length < 8 → fit s i = false →
           refused .slotUnfit) ∧
         (s.proc.state = .gathering → inTestSet s i = false → s.proc.testSet.length < 8 → fit s i = true →
           taken (s.proc.testSet ++ [{ slot := i, sealedMark := false, startPressure := none }])))

/-- R81, R130 and R136: the expiry of the gathering window and Resume Test settle the test: every set slot is
closed urgently, with target and commanded position 0, no queue entry, and its valve MOVING from the present
count unless it is STUCK, and the queues are then tested for issue; one whose valve is STUCK leaves as NOSEAL
with the error flag set, and the controller is SETTLING with the rest, no notice raised, or IDLE with
ProcedureDone when none is left. An expiry before its time leaves the state as it was (log entry 5). -/
def Obligations.SettlingBegins : Prop :=
  ∀ s : State,
    let stuck := fun t : TestPlace => (valveOf s t.slot).isStuck && inService s t.slot
    let results := appendFor (bareResult .noSeal) (s.proc.testSet.filter stuck) s.proc.results
    let flag := s.proc.errorFlag || s.proc.testSet.any stuck
    let settled := fun t : State =>
      t.motion = (issueAll (urgentClose (inTestSet s) s)).motion ∧
        (∀ i, inTestSet s i = true →
          (valveOf t i).target = 0 ∧ (valveOf t i).commanded = 0 ∧
            (valveOf t i).reported = (valveOf s i).reported ∧
            (inService s i = true → (valveOf s i).isStuck = true → (valveOf t i).state = .stuck) ∧
            (inService s i = true → (valveOf s i).isStuck = false → (valveOf t i).state = .moving s.elapsed) ∧
            (inService s i = false → (valveOf t i).state = .atRest) ∧
            ∀ k, ∀ e ∈ t.motion.queues.get k, e.slot ≠ i) ∧
        (s.proc.testSet.all stuck = false →
          t.links = s.links ∧
            t.proc =
              { s.proc with
                state := .settling, testSet := s.proc.testSet.filter (fun p => !stuck p), gatherExpiry := none,
                results := results, errorFlag := flag }) ∧
        (s.proc.testSet.all stuck = true →
          t.links = noticedLinks .procedureDone s ∧
            t.proc =
              { state := .idle, testSet := [], duration := none, gatherExpiry := none, measureStart := none,
                measureExpiry := none, purgeSlot := none, purgeExpiry := none, errorFlag := flag,
                results := results }) ∧
        { t with links := s.links, motion := s.motion, proc := s.proc } = s
    (∀ e, s.proc.state = .gathering → s.proc.gatherExpiry = some e → e ≤ s.elapsed →
        ∃ t, exec .gatheringWindowExpiry s = .next t ∧ settled t) ∧
      (∀ e, s.proc.gatherExpiry = some e → s.elapsed < e → exec .gatheringWindowExpiry s = .next s) ∧
      ∀ l p, Admitted l .resumeTest p s →
        (s.proc.state = .suspended →
            ∃ t, exec (.resumeTest l p) s = .next (answered l 0x39#8 .ok [] t) ∧ settled t) ∧
          (s.proc.state = .suspendedPurging →
            exec (.resumeTest l p) s = .next (answered l 0x39#8 .procBusy [] s)) ∧
          (s.proc.state ≠ .suspended → s.proc.state ≠ .suspendedPurging →
            exec (.resumeTest l p) s = .next (answered l 0x39#8 .notSuspended [] s))

/-- R131 to R133: a sealing report of a set slot in SETTLING marks it; when every remaining slot is marked
the test enters MEASURING, without the slots whose head is SILENT, the others with their start pressures. A
set slot whose valve becomes STUCK in SETTLING leaves as NOSEAL with the error flag set, and the set is
examined again: the last to leave ends the test, and when all that remain are marked the test enters
MEASURING in the same way, the NOREADING records after the NOSEAL (log entry 27). In MEASURING a valve that
becomes STUCK stays in the set, and a set slot whose head becomes SILENT leaves as NOREADING with its start
pressure and the seconds measured, and the error flag is set; the last to leave ends the test. -/
def Obligations.SealingAndMeasuring : Prop :=
  (∀ (s : State) (i : SlotIdx), s.proc.state = .settling → inTestSet s i = true →
     let marked := s.proc.testSet.map fun t => if t.slot == i then { t with sealedMark := true } else t
     let heard := marked.filter fun t => !headSilent s t.slot
     let results := appendFor (bareResult .noReading) (marked.filter fun p => headSilent s p.slot) s.proc.results
     let t := sealSlot i s
     (marked.all (·.sealedMark) = false → t = { s with proc := { s.proc with testSet := marked } }) ∧
       (marked.all (·.sealedMark) = true → heard ≠ [] →
         t.proc.state = .measuring ∧
           t.proc.testSet = heard.map (fun p => { p with startPressure := pressureOf s p.slot }) ∧
           t.proc.measureStart = some s.elapsed ∧
           (∀ d, s.proc.duration = some d → t.proc.measureExpiry = some (s.elapsed + d)) ∧
           t.proc.errorFlag = (s.proc.errorFlag || marked.any fun p => headSilent s p.slot) ∧
           t.proc.results = results ∧ t.links = s.links) ∧
       (marked.all (·.sealedMark) = true → heard = [] →
         t.proc.state = .idle ∧ t.proc.testSet = [] ∧ t.proc.errorFlag = true ∧ t.proc.results = results ∧
           t.links = noticedLinks .procedureDone s) ∧
       { t with links := s.links, proc := s.proc } = s) ∧
  (∀ (s : State) (i : SlotIdx), s.proc.state = .settling → inTestSet s i = true →
     let left := s.proc.testSet.filter fun t => !(t.slot == i)
     let noSeal :=
       appendFor (bareResult .noSeal) (s.proc.testSet.filter fun t => t.slot == i) s.proc.results
     let heard := left.filter fun t => !headSilent s t.slot
     let results := appendFor (bareResult .noReading) (left.filter fun p => headSilent s p.slot) noSeal
     let t := dropStuck i s
     (left.all (·.sealedMark) = false →
         t = { s with proc := { s.proc with testSet := left, results := noSeal, errorFlag := true } }) ∧
       (left.all (·.sealedMark) = true → heard ≠ [] →
         t.proc.state = .measuring ∧
           t.proc.testSet = heard.map (fun p => { p with startPressure := pressureOf s p.slot }) ∧
           t.proc.measureStart = some s.elapsed ∧
           (∀ d, s.proc.duration = some d → t.proc.measureExpiry = some (s.elapsed + d)) ∧
           t.proc.errorFlag = true ∧ t.proc.results = results ∧ t.links = s.links) ∧
       (left.all (·.sealedMark) = true → heard = [] →
         t.proc.state = .idle ∧ t.proc.testSet = [] ∧ t.proc.errorFlag = true ∧ t.proc.results = results ∧
           t.links = noticedLinks .procedureDone s) ∧
       { t with links := s.links, proc := s.proc } = s) ∧
  (∀ (s : State) (i : SlotIdx), s.proc.state = .measuring → (valveOf s i).isStuck = false →
     let t := stickValve i s
     t.proc = s.proc ∧ t.links = noticedLinks .valveFault s ∧
       valveOf t i = { valveOf s i with state := .stuck }) ∧
  (∀ (s : State) (i : SlotIdx) (start : Nat), s.proc.state = .measuring → inTestSet s i = true →
     s.proc.measureStart = some start →
     let left := s.proc.testSet.filter fun t => !(t.slot == i)
     let record := fun t : TestPlace =>
       { slot := t.slot, outcome := TestOutcome.noReading, startPressure := t.startPressure, endPressure := none,
         seconds := s.elapsed - start, riseRate := none : ResultRecord }
     let results := appendFor record (s.proc.testSet.filter fun t => t.slot == i) s.proc.results
     (left ≠ [] →
         dropSilent i s = { s with proc := { s.proc with testSet := left, results := results, errorFlag := true } }) ∧
       (left = [] →
         (dropSilent i s).proc.state = .idle ∧ (dropSilent i s).proc.results = results ∧
           (dropSilent i s).proc.errorFlag = true ∧ (dropSilent i s).links = noticedLinks .procedureDone s))

/-- R134, R138, R139, R135: the completions of a measurement and of a purge, Abort Procedure and Suspend
Test, each whole; the measure duration goes with every test that ends (log entry 8). -/
def Obligations.ProcedureEndings : Prop :=
  ∀ s : State,
    let ended := fun (results : List ResultRecord) =>
      { s with
        proc :=
          { state := .idle, testSet := [], duration := none, gatherExpiry := none, measureStart := none,
            measureExpiry := none, purgeSlot := none, purgeExpiry := none, errorFlag := s.proc.errorFlag,
            results := results }
        links := noticedLinks .procedureDone s }
    let result := fun (o : TestOutcome) (t : TestPlace) (end_ : Option Nat) (seconds : Nat) (rate : Option Int) =>
      { slot := t.slot, outcome := o, startPressure := t.startPressure, endPressure := end_, seconds := seconds,
        riseRate := rate : ResultRecord }
    (∀ e d, s.proc.state = .measuring → s.proc.measureExpiry = some e → e ≤ s.elapsed →
        s.proc.duration = some d →
        exec .measuringExpiry s =
          .next
            (ended
              (appendFor
                (fun t =>
                  result .complete t (pressureOf s t.slot) d
                    (t.startPressure.bind fun a => (pressureOf s t.slot).map fun b => riseRate a b d))
                s.proc.testSet s.proc.results))) ∧
      (∀ e, s.proc.state = .purging → s.proc.purgeExpiry = some e → e ≤ s.elapsed →
        exec .purgeExpiry s =
          .next
            { s with
              proc := { s.proc with state := .idle, purgeSlot := none, purgeExpiry := none }
              links := noticedLinks .procedureDone s }) ∧
      (∀ e, s.proc.state = .suspendedPurging → s.proc.purgeExpiry = some e → e ≤ s.elapsed →
        exec .purgeExpiry s =
          .next
            { s with
              proc := { s.proc with state := .suspended, purgeSlot := none, purgeExpiry := none }
              links := noticedLinks .procedureDone s }) ∧
      (∀ l p, Admitted l .abortProcedure p s →
        (s.proc.state = .idle →
            exec (.abortProcedure l p) s = .next (answered l 0x2B#8 .notRunning [] s)) ∧
          (s.proc.state = .settling →
            exec (.abortProcedure l p) s =
              .next
                (answered l 0x2B#8 .ok []
                  (ended (appendFor (bareResult .aborted) s.proc.testSet s.proc.results)))) ∧
          (∀ start, s.proc.state = .measuring → s.proc.measureStart = some start →
            exec (.abortProcedure l p) s =
              .next
                (answered l 0x2B#8 .ok []
                  (ended
                    (appendFor
                      (fun t => result .aborted t (pressureOf s t.slot) (s.elapsed - start) none)
                      s.proc.testSet s.proc.results)))) ∧
          (s.proc.state ∈ [ProcState.gathering, .suspended, .suspendedPurging, .purging] →
            exec (.abortProcedure l p) s = .next (answered l 0x2B#8 .ok [] (ended s.proc.results)))) ∧
      ∀ l p, Admitted l .suspendTest p s →
        (s.proc.state = .settling ∨ s.proc.state = .measuring →
            exec (.suspendTest l p) s =
              .next
                (answered l 0x38#8 .ok []
                  { s with
                    proc :=
                      { s.proc with
                        state := .suspended
                        testSet :=
                          s.proc.testSet.map fun t => { t with sealedMark := false, startPressure := none }
                        measureStart := none
                        measureExpiry := none } })) ∧
          (s.proc.state ≠ .settling → s.proc.state ≠ .measuring →
            exec (.suspendTest l p) s = .next (answered l 0x38#8 .notRunning [] s))

/-- R137: Begin Purge, decided in its order; an acceptance makes the slot the purge slot, clears the error
flag and removes the slot's queue entry (R85). -/
def Obligations.BeginPurge : Prop :=
  ∀ (l : Link) (p : Payload) (s : State) (i : SlotIdx), Admitted l .beginPurge p s → slotOf (u8 p 0) = some i →
    let d := max 10 (min 300 (u16 p 1))
    let refused := fun r : Result => exec (.beginPurge l p) s = .next (answered l 0x3A#8 r [] s)
    let free := s.proc.state = .idle ∨ s.proc.state = .suspended
    let polled := lifecycleOf s i = .active ∧ headResponding s i = true
    (¬free → refused .procBusy) ∧ (free → ¬polled → refused .slotUnfit) ∧
      (s.proc.state = .suspended → polled → inTestSet s i = true → refused .slotInTest) ∧
      (∀ (from_ to_ : ProcState), s.proc.state = from_ →
        (from_, to_) ∈ [(ProcState.idle, ProcState.purging), (.suspended, .suspendedPurging)] → polled →
        (from_ = .suspended → inTestSet s i = false) →
        exec (.beginPurge l p) s =
          .next
            (answered l 0x3A#8 (okUnless (d ≠ u16 p 1)) ([to_.byte, byteOf (slotNum i)] ++ leBytes 2 d)
              (issueZone (zoneAt s i)
                (removeEntries (fun j => j == i)
                  { discarded l s with
                    proc :=
                      { s.proc with
                        state := to_, purgeSlot := some i, purgeExpiry := some (s.elapsed + d),
                        errorFlag := false } }))))

/-- R141 and R142: appending to the results list, which holds at most 16 records, the oldest going first,
several of one moment in ascending slot order;
the rise rate is the difference of the pressures times 60 over the seconds, truncated toward zero: with the
sign dropped it is the quotient rounded down, and it has the sign of the difference. -/
def Obligations.ResultRecords : Prop :=
  (∀ (rs : List ResultRecord) (r : ResultRecord),
     (rs.length < 16 → appendResult rs r = rs ++ [r]) ∧
       (rs.length = 16 → appendResult rs r = rs.tail ++ [r]) ∧
       ∀ (mk : TestPlace → ResultRecord) (ts : List TestPlace), rs.length ≤ 16 →
         (appendFor mk ts rs).length = min 16 (rs.length + ts.length) ∧
           ((ascending ts).Perm ts ∧ (ascending ts).Pairwise fun a b => a.slot ≤ b.slot) ∧
           ∀ us : List TestPlace, us.Perm ts → (us.Pairwise fun a b => a.slot < b.slot) →
             appendFor mk ts rs = (rs ++ us.map mk).drop (rs.length + us.length - 16)) ∧
  (∀ (start stop seconds : Nat), 60 ≤ seconds →
     (start ≤ stop → riseRate start stop seconds = (((stop - start) * 60 / seconds : Nat) : Int)) ∧
       (stop ≤ start → riseRate start stop seconds = -(((start - stop) * 60 / seconds : Nat) : Int)))

/-! ## The field line and the readings (chapter 2) -/

/-- R22, R25, R26: a poll that yields no valid reply is a miss, by timeout or by its bytes, and the next
poll is sent; bytes with no poll outstanding change nothing (log entry 5), and STRAY_FIELD_BYTES, which are
those bytes, change nothing in any state (log entry 16). A head counts its first two misses, the third in a
row makes it SILENT with HeadSilent noticed, and a SILENT head stays as it is; this holds of every slot's head
and of the manifold's, and nothing else of the part changes but that a set slot falling SILENT in MEASURING
then leaves the test as R133 says. -/
def Obligations.Misses : Prop :=
  ((∀ (s : State) (p : Poll), s.scanner.poll = some p →
       exec .pollTimeout s = .next (sendNext (missReply p.head (clearPoll s))) ∧
         ∀ bytes : List Byte,
           bytes.length ≠ 17 ∨ bytes.head? ≠ some 0x5A#8 ∨
               numAt bytes 15 2 ≠ (crc16 ((bytes.drop 1).take 14)).toNat ∨
               numAt bytes 1 1 ≠ p.head.address →
           exec (.fieldReplyRejected bytes) s = .next (sendNext (missReply p.head (clearPoll s)))) ∧
     ∀ (s : State) (bytes : List Byte),
       exec (.strayFieldBytes bytes) s = .next s ∧
         (s.scanner.poll = none → exec (.fieldReplyRejected bytes) s = .next s)) ∧
  (∀ (s : State) (i : SlotIdx) (h : Head), s.scanner.heads.get i = some h →
     let head := fun x : Head => { s with scanner := { s.scanner with heads := s.scanner.heads.set i (some x) } }
     (h.state = .responding → h.misses < 2 →
         missReply (.slot i) s = head { state := .responding, misses := h.misses + 1 }) ∧
       (h.state = .responding → h.misses = 2 →
         let fallen := { head { state := .silent, misses := 3 } with links := noticedLinks .headSilent s }
         (s.proc.state = .measuring → inTestSet s i = true → missReply (.slot i) s = dropSilent i fallen) ∧
           (s.proc.state ≠ .measuring ∨ inTestSet s i = false → missReply (.slot i) s = fallen)) ∧
       (h.state = .silent → missReply (.slot i) s = s)) ∧
  (∀ s : State,
     let h := s.scanner.manifoldHead
     let head := fun x : Head => { s with scanner := { s.scanner with manifoldHead := x } }
     (h.state = .responding → h.misses < 2 →
         missReply .manifold s = head { state := .responding, misses := h.misses + 1 }) ∧
       (h.state = .responding → h.misses = 2 →
         missReply .manifold s =
           { head { state := .silent, misses := 3 } with links := noticedLinks .headSilent s }) ∧
       (h.state = .silent → missReply .manifold s = s))

/-- R23 and R24: when a poll stops being outstanding the next entry of the cycle's list that is in service
is polled, the others being skipped; when the list is used up a new cycle begins at the manifold head. The
poll carries the slot's commanded position and opens the drain of the purge slot alone. -/
def Obligations.PollCycle : Prop :=
  ∀ s : State,
    (∀ (skipped rest : List SlotIdx) (i : SlotIdx),
        s.scanner.remaining = skipped.map .slot ++ .slot i :: rest.map .slot →
        (∀ j ∈ skipped, inService s j = false) → inService s i = true →
        sendNext s =
          { s with
            scanner :=
              { s.scanner with
                poll :=
                  some
                    { head := .slot i, commanded := (valveOf s i).commanded,
                      drainOpen :=
                        isPurgeSlot s i && (s.proc.state == .purging || s.proc.state == .suspendedPurging) }
                remaining := rest.map .slot } }) ∧
      ∀ skipped : List SlotIdx, s.scanner.remaining = skipped.map .slot →
        (∀ j ∈ skipped, inService s j = false) →
        sendNext s =
          { s with
            scanner :=
              { s.scanner with
                poll := some { head := .manifold, commanded := 0, drainOpen := false }
                remaining := (allSlots.filter (inService s)).map .slot } }

/-- R17, R26, R28 to R35, R70, R75, R78, R80: what a reply taken from the head of an ACTIVE slot, or of a
RETIRING slot that reports more than 2, does, and that it touches no other slot's readings, roster or head: in
this order the position is set, a completed move is followed by the zone's test for issue, and a valve fault of
a valve not yet STUCK by the removal of the slot's entry and that test again; the next poll is sent. A RETIRING slot whose head reports 2 or less becomes RETIRED: its
readings, head state, yield estimate and commission time go, and its valve record is at rest at 0 (log entry
21, DEDUCED). -/
def Obligations.SlotReplyTaken : Prop :=
  (∀ (s : State) (p : Poll) (i : SlotIdx) (bytes : List Byte) (r : HeadReply) (rec : ReadingRecord),
     s.scanner.poll = some p → p.head = .slot i → replyTo (.slot i) bytes = some r →
       MotionLaw s → s.scanner.records.get i = some rec →
       lifecycleOf s i = .active ∨ (lifecycleOf s i = .retiring ∧ 2 < r.position) →
       let c := min 1000 r.c
       let o := min 250 r.o
       let q := min 20000 r.q
       let position := min 100 r.position
       let now := fun v : Nat => some { value := v, time := s.elapsed : Stamped }
       let reported := { valveOf s i with reported := some position }
       let withValve := fun v : Valve => { s with motion := { s.motion with valves := s.motion.valves.set i v } }
       let done :=
         (valveOf s i).isMoving = true ∧ position ≤ (valveOf s i).commanded + 2 ∧
           (valveOf s i).commanded ≤ position + 2
       ∃ t : State, exec (.fieldReplyTaken bytes) s = .next t ∧
         t.scanner.heads.get i = some { state := .responding, misses := 0 } ∧
         t.scanner.records.get i =
           some
             { methane := if r.drainOpen = false ∧ r.faults.methane = false then now c else rec.methane
               oxygen := if r.drainOpen = false ∧ r.faults.oxygen = false then now o else rec.oxygen
               flow := if r.drainOpen = false ∧ r.faults.flow = false then now q else rec.flow
               pressure := now (min 20000 r.pressure)
               position := now position
               drainOpen := some r.drainOpen
               faults := some r.faults } ∧
         t.plan.roster.get i =
           { s.plan.roster.get i with
             yieldEst :=
               if r.drainOpen = false ∧ r.faults.flow = false ∧ 10 ≤ position then
                 (s.plan.roster.get i).yieldEst.map fun y =>
                   max 1 ((3 * y + min 20000 (q * 100 / position)) / 4)
               else (s.plan.roster.get i).yieldEst } ∧
         (valveOf t i).reported = some position ∧
         (r.faults.valve = true →
           (valveOf t i).state = .stuck ∧ (∀ k, ∀ e ∈ t.motion.queues.get k, e.slot ≠ i) ∧
             ((valveOf s i).isStuck = false → Noticed .valveFault t)) ∧
         (∀ u : State,
           (done → u = issueZone (zoneAt s i) (withValve { reported with state := .atRest })) →
             (¬done → u = withValve reported) →
             (r.faults.valve = false ∨ (valveOf s i).isStuck = true → t.motion = u.motion) ∧
               (r.faults.valve = true → (valveOf s i).isStuck = false →
                 t.motion =
                   (issueZone (zoneAt s i)
                     (removeEntries (fun j => j == i) (setValve i { valveOf u i with state := .stuck } u))).motion)) ∧
         (s.proc.state ≠ .settling ∨ inTestSet s i = false → t.proc = s.proc) ∧
         (r.faults.valve = false →
           t.proc = if position ≤ 2 then (sealSlot i { s with scanner := t.scanner }).proc else s.proc) ∧
         (r.faults.valve = true → (valveOf s i).isStuck = false → 2 < position →
           t.proc = (dropStuck i { s with scanner := t.scanner }).proc) ∧
         t.scanner.poll = (nextPoll s.scanner.remaining t).scanner.poll ∧
         t.scanner.remaining = (nextPoll s.scanner.remaining t).scanner.remaining ∧
         (r.faults.valve = false → s.motion.queues.get (zoneAt s i) = [] →
           (valveOf t i).commanded = (valveOf s i).commanded ∧ (valveOf t i).target = (valveOf s i).target ∧
             ((valveOf s i).isMoving = true → position ≤ (valveOf s i).commanded + 2 →
               (valveOf s i).commanded ≤ position + 2 → (valveOf t i).state = .atRest) ∧
             (((valveOf s i).isMoving = false ∨ (valveOf s i).commanded + 2 < position ∨
                 position + 2 < (valveOf s i).commanded) →
               (valveOf t i).state = (valveOf s i).state)) ∧
         (∀ j, j ≠ i →
           t.scanner.heads.get j = s.scanner.heads.get j ∧ t.scanner.records.get j = s.scanner.records.get j ∧
             t.plan.roster.get j = s.plan.roster.get j) ∧
         t.plan.active = s.plan.active ∧ t.plan.pendingPlan = s.plan.pendingPlan ∧ t.rounds = s.rounds ∧
         t.gas = s.gas ∧ t.trips = s.trips ∧ t.store = s.store ∧ t.elapsed = s.elapsed) ∧
  (∀ (s : State) (p : Poll) (i : SlotIdx) (bytes : List Byte) (r : HeadReply),
     s.scanner.poll = some p → p.head = .slot i → replyTo (.slot i) bytes = some r →
       lifecycleOf s i = .retiring → r.position ≤ 2 → (∀ k, ∀ e ∈ s.motion.queues.get k, e.slot ≠ i) →
       ∃ t : State, exec (.fieldReplyTaken bytes) s = .next t ∧
         lifecycleOf t i = .retired ∧ (t.plan.roster.get i).yieldEst = none ∧
         (t.plan.roster.get i).commissioned = none ∧ t.scanner.records.get i = none ∧
         t.scanner.heads.get i = none ∧
         valveOf t i = { target := 0, commanded := 0, reported := none, state := .atRest })

/-! ## The plan store and start-up (chapter 9) -/

/-- R161 to R163: Store Plan captures the image, marks the stored one invalid and is WRITING for 3 s; at the
write end the mark follows the comparison of the CRC-32s, with StoreDone or StoreFailed, and the CRC-32 of the
captured image is stored low byte first (R169). That the bytes read back come with the command is log entry
17; that STORE_WRITE_END before its time leaves the state as it was is log entry 5. -/
def Obligations.StoreWrite : Prop :=
  (∀ (l : Link) (p : Payload) (s : State), Admitted l .storePlan p s →
      let image : Image :=
        { plan := s.plan.active
          slots := s.plan.roster.map fun r => (r.lifecycle, r.yieldEst)
          mode := s.rounds.mode
          period := s.rounds.period
          windows := s.trips.windows.map (·.entry) }
      (s.store.state = .idle →
          exec (.storePlan l p) s =
            .next
              (answered l 0x1B#8 .ok [0x01#8]
                { s with
                  store :=
                    { stored := { s.store.stored with markedValid := false }
                      state := .writing image (crc32 image.bytes) (s.elapsed + 3) } })) ∧
        (∀ img crc e, s.store.state = .writing img crc e →
          exec (.storePlan l p) s = .next (answered l 0x1B#8 .storeBusy [] s))) ∧
    ∀ (s : State) (img : Image) (crc : Word32) (e : Nat) (readBack : List Byte),
      s.store.state = .writing img crc e →
        (e ≤ s.elapsed →
            (crc32 readBack = crc →
              exec (.storeWriteEnd readBack) s =
                .next
                  { s with
                    store :=
                      { stored := { contents := readBack, crcBytes := leBytes 4 crc.toNat, markedValid := true },
                        state := .idle }
                    links := noticedLinks .storeDone s }) ∧
            (crc32 readBack ≠ crc →
              exec (.storeWriteEnd readBack) s =
                .next
                  { s with
                    store :=
                      { stored := { contents := readBack, crcBytes := leBytes 4 crc.toNat, markedValid := false },
                        state := .idle }
                    links := noticedLinks .storeFailed s })) ∧
          (s.elapsed < e → exec (.storeWriteEnd readBack) s = .next s)

/-- R162, R164, R169: every image within its ranges is 1371 bytes long and is read back from them exactly.
-/
def Obligations.ImageRoundTrip : Prop :=
  ∀ img : Image, img.inRange = true → img.bytes.length = 1371 ∧ decodeImage img.bytes = some img

/-- R19, R20, R27, R33, R39, R40, R70, R90, R111, R117, R125, R144, R160, R164, R165, R169: what a reset leaves
in every block, whether or not a valid image is stored; the contacts, the key switch, the stored image and
the queue of commands outlast it, and the first poll is sent to the manifold head (log entries 1, 2 and 20);
no request waits and no minute rollover is due (log entries 9 and 10). The stored image is valid when it is
marked valid, carries the CRC-32 of its contents low byte first, and encodes an image within its ranges; it is
then loaded, and the defaults are taken in every other case. That contents which are not the exact encoding of
such an image are not valid is the model's choice (log entry 17, DESIGN CHOICE, unsafe in that corner). -/
def Obligations.ResetLeaves : Prop :=
  (∀ s : State,
     let lost := loadImage s.store.stored = none
     ∃ t : State, exec .reset s = .next t ∧ t.elapsed = 0 ∧ t.pending = s.pending ∧
       (∀ l : Link,
         t.links.get l =
           { receiver := .hunting, request := none, sent := [],
             notices := if lost then 0x0003#16 else 0x0001#16, mask := 0x01D3#16, attention := true }) ∧
       (t.rounds.allocator = .startup ∧ t.rounds.missed = false ∧ t.rounds.computed = 0 ∧
         t.rounds.record = none ∧ t.rounds.capacity = 0 ∧ (∀ i, t.rounds.staleMarks.get i = false) ∧
         t.rounds.requests = 0 ∧ t.rounds.requestsAhead = 0 ∧ t.rounds.gasBandRequests = 0 ∧
         t.rounds.nextExpiry = if t.rounds.mode = .cycling then some t.rounds.period else none) ∧
       (∀ i : SlotIdx,
         valveOf t i =
           { target := 0, commanded := 0, reported := none,
             state := if inService t i then .moving 0 else .atRest }) ∧
       (∀ k : ZoneIdx, t.motion.queues.get k = []) ∧
       t.gas =
         { limits := { cFloor := 300, oCeil := 30, aFloor := 250, aO2 := 40, margin := 50, alarmCount := 3 }
           alarm := .clear, outCount := 0, inCount := 0, watchRef := 0, watch := .armed, bandCount := 0,
           slotLocks := Table.fill false, zoneLocks := Table.fill false,
           keySwitchClosed := s.gas.keySwitchClosed, keyActive := false } ∧
       (∀ j : LineIdx,
         t.trips.lines.get j =
           { state := .armed, contactClosed := (s.trips.lines.get j).contactClosed, inputActive := false }) ∧
       t.trips.clock = { weekday := 1, hour := 0, minute := 0, second := 0 } ∧ t.trips.unset = true ∧
       t.trips.rolloversDue = [] ∧ (∀ w : WindowIdx, (t.trips.windows.get w).remaining = none) ∧
       (∀ k : ZoneIdx, t.trips.ceilings.get k = none) ∧
       t.proc =
         { state := .idle, testSet := [], duration := none, gatherExpiry := none, measureStart := none,
           measureExpiry := none, purgeSlot := none, purgeExpiry := none, errorFlag := false, results := [] } ∧
       t.store = { stored := s.store.stored, state := .idle } ∧
       t.scanner.poll = some { head := .manifold, commanded := 0, drainOpen := false } ∧
       t.scanner.remaining = (allSlots.filter (inService t)).map .slot ∧
       t.scanner.manifoldHead = { state := .responding, misses := 0 } ∧
       t.scanner.manifold = { methane := none, oxygen := none, flow := none, pressure := none, faults := none } ∧
       ∀ i : SlotIdx,
         t.scanner.heads.get i = (if inService t i then some { state := .responding, misses := 0 } else none) ∧
           t.scanner.records.get i =
             if inService t i then
               some
                 { methane := none, oxygen := none, flow := none, pressure := none, position := none,
                   drainOpen := none, faults := none }
             else none) ∧
  (∀ s : State,
     let stored := s.store.stored
     let valid := fun img : Image =>
       stored.markedValid = true ∧ stored.crcBytes = leBytes 4 (crc32 stored.contents).toNat ∧
         img.inRange = true ∧ stored.contents = img.bytes
     ∃ t : State, exec .reset s = .next t ∧ (loadImage stored = none ↔ ∀ img, ¬valid img) ∧
       t.plan.pendingPlan = t.plan.active ∧ t.plan.adoption = .editable ∧
       (∀ img : Image, valid img →
         t.plan.active = img.plan ∧ t.rounds.mode = img.mode ∧ t.rounds.period = img.period ∧
           (∀ w, (t.trips.windows.get w).entry = img.windows.get w) ∧
           ∀ i,
             t.plan.roster.get i =
               { lifecycle := (img.slots.get i).1, mode := .auto, yieldEst := (img.slots.get i).2,
                 commissioned := if (img.slots.get i).1.inService then some 0 else none }) ∧
       ((∀ img, ¬valid img) →
         t.plan.active = defaultPlan ∧ t.rounds.mode = .cycling ∧ t.rounds.period = 30 ∧
           (∀ w, t.trips.windows.get w = defaultWindow) ∧
           ∀ i,
             t.plan.roster.get i =
               { lifecycle := .vacant, mode := .auto, yieldEst := none, commissioned := none }))

/-! ## Invariants -/

/-- Every invariant below holds of the state after reset. -/
def Obligations.InvariantsHoldAtReset : Prop :=
  LinesFollow State.reset ∧ GasInRange State.reset ∧ PlansInRange State.reset ∧ RosterLaw State.reset ∧
    ScannerLaw State.reset ∧ MotionLaw State.reset ∧ ClosedLaw State.reset ∧ RoundsInRange State.reset ∧
    TripsLaw State.reset ∧ ProcedureLaw State.reset ∧ StoreLaw State.reset ∧ TimesPast State.reset

/-- R40, R92, R102, R103, R105, R106, R112, R117 to R123, R157, R159: every step keeps each attention line
following its set and mask, the limits, the counters and the round timer within their ranges, the requests
that come first no more than those waiting (R47, log entry 9), and the clock, the windows, the ceilings and
the trip lines lawful. -/
def Obligations.StepKeepsRanges : Prop :=
  ∀ s t : State, step s = .next t →
    (LinesFollow s → LinesFollow t) ∧ (GasInRange s → GasInRange t) ∧ (RoundsInRange s → RoundsInRange t) ∧ (TripsLaw s → TripsLaw t)

/-- R3 to R8, R10, R14, R26, R27, R29, R33, R35: every step keeps both plans within their ranges and the
active plan valid, the roster law, and the Scanner's care in step with the lifecycles. -/
def Obligations.StepKeepsPlanTable : Prop :=
  ∀ s t : State, step s = .next t →
    (PlansInRange s → PlansInRange t) ∧ (RosterLaw s → RosterLaw t) ∧ (ScannerLaw s → ScannerLaw t)

/-- R72, R83, R85: every step keeps the motion queues lawful. -/
def Obligations.StepKeepsMotion : Prop :=
  ∀ s t : State, MotionLaw s → step s = .next t → MotionLaw t

/-- R49: every step keeps the manifold closed while the allocator is STARTUP or SHUT-IN. -/
def Obligations.StepKeepsManifoldClosed : Prop :=
  ∀ s t : State, ClosedLaw s → step s = .next t → ClosedLaw t

/-- R126 and R141: every step keeps the law of the test set and purge; that the measure duration is absent
in IDLE and PURGING is log entry 8. -/
def Obligations.StepKeepsProcedure : Prop :=
  ∀ s t : State, ProcedureLaw s → step s = .next t → ProcedureLaw t

/-- R160 to R162, R29, R79, R104: every step keeps the stored image marked invalid while a write is in
progress, with the captured image and its CRC-32, and each time the part holds at or before its
elapsed-seconds count. -/
def Obligations.StepKeepsStoreAndTimes : Prop :=
  ∀ s t : State, step s = .next t →
    (StoreLaw s → StoreLaw t) ∧ (TimesPast s → TimesPast t)
end

