-- ==== Sys2Proof/Laws/State.lean ====
section
/-! SUPPORT. What each one-step update of the state leaves as it was: one lemma per field per update, true
by rfl, so that no proof unfolds an update to read a field it does not touch. -/

namespace Sys2Proof.Machine

variable (s : State)

@[simp] theorem setRoster_elapsed (i : SlotIdx) (r : Roster) : (setRoster i r s).elapsed = s.elapsed := rfl
@[simp] theorem setRoster_links (i : SlotIdx) (r : Roster) : (setRoster i r s).links = s.links := rfl
@[simp] theorem setRoster_scanner (i : SlotIdx) (r : Roster) : (setRoster i r s).scanner = s.scanner := rfl
@[simp] theorem setRoster_rounds (i : SlotIdx) (r : Roster) : (setRoster i r s).rounds = s.rounds := rfl
@[simp] theorem setRoster_motion (i : SlotIdx) (r : Roster) : (setRoster i r s).motion = s.motion := rfl
@[simp] theorem setRoster_gas (i : SlotIdx) (r : Roster) : (setRoster i r s).gas = s.gas := rfl
@[simp] theorem setRoster_trips (i : SlotIdx) (r : Roster) : (setRoster i r s).trips = s.trips := rfl
@[simp] theorem setRoster_proc (i : SlotIdx) (r : Roster) : (setRoster i r s).proc = s.proc := rfl
@[simp] theorem setRoster_store (i : SlotIdx) (r : Roster) : (setRoster i r s).store = s.store := rfl
@[simp] theorem setRoster_pending (i : SlotIdx) (r : Roster) : (setRoster i r s).pending = s.pending := rfl

@[simp] theorem setValve_elapsed (i : SlotIdx) (v : Valve) : (setValve i v s).elapsed = s.elapsed := rfl
@[simp] theorem setValve_links (i : SlotIdx) (v : Valve) : (setValve i v s).links = s.links := rfl
@[simp] theorem setValve_plan (i : SlotIdx) (v : Valve) : (setValve i v s).plan = s.plan := rfl
@[simp] theorem setValve_scanner (i : SlotIdx) (v : Valve) : (setValve i v s).scanner = s.scanner := rfl
@[simp] theorem setValve_rounds (i : SlotIdx) (v : Valve) : (setValve i v s).rounds = s.rounds := rfl
@[simp] theorem setValve_gas (i : SlotIdx) (v : Valve) : (setValve i v s).gas = s.gas := rfl
@[simp] theorem setValve_trips (i : SlotIdx) (v : Valve) : (setValve i v s).trips = s.trips := rfl
@[simp] theorem setValve_proc (i : SlotIdx) (v : Valve) : (setValve i v s).proc = s.proc := rfl
@[simp] theorem setValve_store (i : SlotIdx) (v : Valve) : (setValve i v s).store = s.store := rfl
@[simp] theorem setValve_pending (i : SlotIdx) (v : Valve) : (setValve i v s).pending = s.pending := rfl

@[simp] theorem setHead_elapsed (i : SlotIdx) (h : Option Head) : (setHead i h s).elapsed = s.elapsed := rfl
@[simp] theorem setHead_links (i : SlotIdx) (h : Option Head) : (setHead i h s).links = s.links := rfl
@[simp] theorem setHead_plan (i : SlotIdx) (h : Option Head) : (setHead i h s).plan = s.plan := rfl
@[simp] theorem setHead_rounds (i : SlotIdx) (h : Option Head) : (setHead i h s).rounds = s.rounds := rfl
@[simp] theorem setHead_motion (i : SlotIdx) (h : Option Head) : (setHead i h s).motion = s.motion := rfl
@[simp] theorem setHead_gas (i : SlotIdx) (h : Option Head) : (setHead i h s).gas = s.gas := rfl
@[simp] theorem setHead_trips (i : SlotIdx) (h : Option Head) : (setHead i h s).trips = s.trips := rfl
@[simp] theorem setHead_proc (i : SlotIdx) (h : Option Head) : (setHead i h s).proc = s.proc := rfl
@[simp] theorem setHead_store (i : SlotIdx) (h : Option Head) : (setHead i h s).store = s.store := rfl
@[simp] theorem setHead_pending (i : SlotIdx) (h : Option Head) : (setHead i h s).pending = s.pending := rfl

@[simp] theorem setRecord_elapsed (i : SlotIdx) (r : Option ReadingRecord) : (setRecord i r s).elapsed = s.elapsed := rfl
@[simp] theorem setRecord_links (i : SlotIdx) (r : Option ReadingRecord) : (setRecord i r s).links = s.links := rfl
@[simp] theorem setRecord_plan (i : SlotIdx) (r : Option ReadingRecord) : (setRecord i r s).plan = s.plan := rfl
@[simp] theorem setRecord_rounds (i : SlotIdx) (r : Option ReadingRecord) : (setRecord i r s).rounds = s.rounds := rfl
@[simp] theorem setRecord_motion (i : SlotIdx) (r : Option ReadingRecord) : (setRecord i r s).motion = s.motion := rfl
@[simp] theorem setRecord_gas (i : SlotIdx) (r : Option ReadingRecord) : (setRecord i r s).gas = s.gas := rfl
@[simp] theorem setRecord_trips (i : SlotIdx) (r : Option ReadingRecord) : (setRecord i r s).trips = s.trips := rfl
@[simp] theorem setRecord_proc (i : SlotIdx) (r : Option ReadingRecord) : (setRecord i r s).proc = s.proc := rfl
@[simp] theorem setRecord_store (i : SlotIdx) (r : Option ReadingRecord) : (setRecord i r s).store = s.store := rfl
@[simp] theorem setRecord_pending (i : SlotIdx) (r : Option ReadingRecord) : (setRecord i r s).pending = s.pending := rfl

@[simp] theorem setProc_elapsed (p : Procedure) : (setProc p s).elapsed = s.elapsed := rfl
@[simp] theorem setProc_links (p : Procedure) : (setProc p s).links = s.links := rfl
@[simp] theorem setProc_plan (p : Procedure) : (setProc p s).plan = s.plan := rfl
@[simp] theorem setProc_scanner (p : Procedure) : (setProc p s).scanner = s.scanner := rfl
@[simp] theorem setProc_rounds (p : Procedure) : (setProc p s).rounds = s.rounds := rfl
@[simp] theorem setProc_motion (p : Procedure) : (setProc p s).motion = s.motion := rfl
@[simp] theorem setProc_gas (p : Procedure) : (setProc p s).gas = s.gas := rfl
@[simp] theorem setProc_trips (p : Procedure) : (setProc p s).trips = s.trips := rfl
@[simp] theorem setProc_store (p : Procedure) : (setProc p s).store = s.store := rfl
@[simp] theorem setProc_pending (p : Procedure) : (setProc p s).pending = s.pending := rfl

@[simp] theorem requestRound_elapsed : (requestRound s).elapsed = s.elapsed := rfl
@[simp] theorem requestRound_links : (requestRound s).links = s.links := rfl
@[simp] theorem requestRound_plan : (requestRound s).plan = s.plan := rfl
@[simp] theorem requestRound_scanner : (requestRound s).scanner = s.scanner := rfl
@[simp] theorem requestRound_motion : (requestRound s).motion = s.motion := rfl
@[simp] theorem requestRound_gas : (requestRound s).gas = s.gas := rfl
@[simp] theorem requestRound_trips : (requestRound s).trips = s.trips := rfl
@[simp] theorem requestRound_proc : (requestRound s).proc = s.proc := rfl
@[simp] theorem requestRound_store : (requestRound s).store = s.store := rfl
@[simp] theorem requestRound_pending : (requestRound s).pending = s.pending := rfl

@[simp] theorem requestRoundAhead_elapsed : (requestRoundAhead s).elapsed = s.elapsed := rfl
@[simp] theorem requestRoundAhead_links : (requestRoundAhead s).links = s.links := rfl
@[simp] theorem requestRoundAhead_plan : (requestRoundAhead s).plan = s.plan := rfl
@[simp] theorem requestRoundAhead_scanner : (requestRoundAhead s).scanner = s.scanner := rfl
@[simp] theorem requestRoundAhead_motion : (requestRoundAhead s).motion = s.motion := rfl
@[simp] theorem requestRoundAhead_gas : (requestRoundAhead s).gas = s.gas := rfl
@[simp] theorem requestRoundAhead_trips : (requestRoundAhead s).trips = s.trips := rfl
@[simp] theorem requestRoundAhead_proc : (requestRoundAhead s).proc = s.proc := rfl
@[simp] theorem requestRoundAhead_store : (requestRoundAhead s).store = s.store := rfl
@[simp] theorem requestRoundAhead_pending : (requestRoundAhead s).pending = s.pending := rfl

@[simp] theorem requestGasBand_elapsed : (requestGasBand s).elapsed = s.elapsed := rfl
@[simp] theorem requestGasBand_links : (requestGasBand s).links = s.links := rfl
@[simp] theorem requestGasBand_plan : (requestGasBand s).plan = s.plan := rfl
@[simp] theorem requestGasBand_scanner : (requestGasBand s).scanner = s.scanner := rfl
@[simp] theorem requestGasBand_motion : (requestGasBand s).motion = s.motion := rfl
@[simp] theorem requestGasBand_gas : (requestGasBand s).gas = s.gas := rfl
@[simp] theorem requestGasBand_trips : (requestGasBand s).trips = s.trips := rfl
@[simp] theorem requestGasBand_proc : (requestGasBand s).proc = s.proc := rfl
@[simp] theorem requestGasBand_store : (requestGasBand s).store = s.store := rfl
@[simp] theorem requestGasBand_pending : (requestGasBand s).pending = s.pending := rfl

@[simp] theorem raise_elapsed (f : Notice) : (raise f s).elapsed = s.elapsed := rfl
@[simp] theorem raise_plan (f : Notice) : (raise f s).plan = s.plan := rfl
@[simp] theorem raise_scanner (f : Notice) : (raise f s).scanner = s.scanner := rfl
@[simp] theorem raise_rounds (f : Notice) : (raise f s).rounds = s.rounds := rfl
@[simp] theorem raise_motion (f : Notice) : (raise f s).motion = s.motion := rfl
@[simp] theorem raise_gas (f : Notice) : (raise f s).gas = s.gas := rfl
@[simp] theorem raise_trips (f : Notice) : (raise f s).trips = s.trips := rfl
@[simp] theorem raise_proc (f : Notice) : (raise f s).proc = s.proc := rfl
@[simp] theorem raise_store (f : Notice) : (raise f s).store = s.store := rfl
@[simp] theorem raise_pending (f : Notice) : (raise f s).pending = s.pending := rfl

@[simp] theorem setPending_elapsed (p : Plan) : (setPending p s).elapsed = s.elapsed := rfl
@[simp] theorem setPending_links (p : Plan) : (setPending p s).links = s.links := rfl
@[simp] theorem setPending_scanner (p : Plan) : (setPending p s).scanner = s.scanner := rfl
@[simp] theorem setPending_rounds (p : Plan) : (setPending p s).rounds = s.rounds := rfl
@[simp] theorem setPending_motion (p : Plan) : (setPending p s).motion = s.motion := rfl
@[simp] theorem setPending_gas (p : Plan) : (setPending p s).gas = s.gas := rfl
@[simp] theorem setPending_trips (p : Plan) : (setPending p s).trips = s.trips := rfl
@[simp] theorem setPending_proc (p : Plan) : (setPending p s).proc = s.proc := rfl
@[simp] theorem setPending_store (p : Plan) : (setPending p s).store = s.store := rfl
@[simp] theorem setPending_pending (p : Plan) : (setPending p s).pending = s.pending := rfl

@[simp] theorem setMode_elapsed (i : SlotIdx) (m : Mode) : (setMode i m s).elapsed = s.elapsed := rfl
@[simp] theorem setMode_links (i : SlotIdx) (m : Mode) : (setMode i m s).links = s.links := rfl
@[simp] theorem setMode_scanner (i : SlotIdx) (m : Mode) : (setMode i m s).scanner = s.scanner := rfl
@[simp] theorem setMode_rounds (i : SlotIdx) (m : Mode) : (setMode i m s).rounds = s.rounds := rfl
@[simp] theorem setMode_motion (i : SlotIdx) (m : Mode) : (setMode i m s).motion = s.motion := rfl
@[simp] theorem setMode_gas (i : SlotIdx) (m : Mode) : (setMode i m s).gas = s.gas := rfl
@[simp] theorem setMode_trips (i : SlotIdx) (m : Mode) : (setMode i m s).trips = s.trips := rfl
@[simp] theorem setMode_proc (i : SlotIdx) (m : Mode) : (setMode i m s).proc = s.proc := rfl
@[simp] theorem setMode_store (i : SlotIdx) (m : Mode) : (setMode i m s).store = s.store := rfl
@[simp] theorem setMode_pending (i : SlotIdx) (m : Mode) : (setMode i m s).pending = s.pending := rfl

@[simp] theorem setAllocator_elapsed (a : Allocator) : (setAllocator a s).elapsed = s.elapsed := rfl
@[simp] theorem setAllocator_links (a : Allocator) : (setAllocator a s).links = s.links := rfl
@[simp] theorem setAllocator_plan (a : Allocator) : (setAllocator a s).plan = s.plan := rfl
@[simp] theorem setAllocator_scanner (a : Allocator) : (setAllocator a s).scanner = s.scanner := rfl
@[simp] theorem setAllocator_motion (a : Allocator) : (setAllocator a s).motion = s.motion := rfl
@[simp] theorem setAllocator_gas (a : Allocator) : (setAllocator a s).gas = s.gas := rfl
@[simp] theorem setAllocator_trips (a : Allocator) : (setAllocator a s).trips = s.trips := rfl
@[simp] theorem setAllocator_proc (a : Allocator) : (setAllocator a s).proc = s.proc := rfl
@[simp] theorem setAllocator_store (a : Allocator) : (setAllocator a s).store = s.store := rfl
@[simp] theorem setAllocator_pending (a : Allocator) : (setAllocator a s).pending = s.pending := rfl

@[simp] theorem setSlotLock_elapsed (i : SlotIdx) (b : Bool) : (setSlotLock i b s).elapsed = s.elapsed := rfl
@[simp] theorem setSlotLock_links (i : SlotIdx) (b : Bool) : (setSlotLock i b s).links = s.links := rfl
@[simp] theorem setSlotLock_plan (i : SlotIdx) (b : Bool) : (setSlotLock i b s).plan = s.plan := rfl
@[simp] theorem setSlotLock_scanner (i : SlotIdx) (b : Bool) : (setSlotLock i b s).scanner = s.scanner := rfl
@[simp] theorem setSlotLock_rounds (i : SlotIdx) (b : Bool) : (setSlotLock i b s).rounds = s.rounds := rfl
@[simp] theorem setSlotLock_motion (i : SlotIdx) (b : Bool) : (setSlotLock i b s).motion = s.motion := rfl
@[simp] theorem setSlotLock_trips (i : SlotIdx) (b : Bool) : (setSlotLock i b s).trips = s.trips := rfl
@[simp] theorem setSlotLock_proc (i : SlotIdx) (b : Bool) : (setSlotLock i b s).proc = s.proc := rfl
@[simp] theorem setSlotLock_store (i : SlotIdx) (b : Bool) : (setSlotLock i b s).store = s.store := rfl
@[simp] theorem setSlotLock_pending (i : SlotIdx) (b : Bool) : (setSlotLock i b s).pending = s.pending := rfl

@[simp] theorem setZoneLock_elapsed (k : ZoneIdx) (b : Bool) : (setZoneLock k b s).elapsed = s.elapsed := rfl
@[simp] theorem setZoneLock_links (k : ZoneIdx) (b : Bool) : (setZoneLock k b s).links = s.links := rfl
@[simp] theorem setZoneLock_plan (k : ZoneIdx) (b : Bool) : (setZoneLock k b s).plan = s.plan := rfl
@[simp] theorem setZoneLock_scanner (k : ZoneIdx) (b : Bool) : (setZoneLock k b s).scanner = s.scanner := rfl
@[simp] theorem setZoneLock_rounds (k : ZoneIdx) (b : Bool) : (setZoneLock k b s).rounds = s.rounds := rfl
@[simp] theorem setZoneLock_motion (k : ZoneIdx) (b : Bool) : (setZoneLock k b s).motion = s.motion := rfl
@[simp] theorem setZoneLock_trips (k : ZoneIdx) (b : Bool) : (setZoneLock k b s).trips = s.trips := rfl
@[simp] theorem setZoneLock_proc (k : ZoneIdx) (b : Bool) : (setZoneLock k b s).proc = s.proc := rfl
@[simp] theorem setZoneLock_store (k : ZoneIdx) (b : Bool) : (setZoneLock k b s).store = s.store := rfl
@[simp] theorem setZoneLock_pending (k : ZoneIdx) (b : Bool) : (setZoneLock k b s).pending = s.pending := rfl

@[simp] theorem setLine_elapsed (j : LineIdx) (ln : TripLine) : (setLine j ln s).elapsed = s.elapsed := rfl
@[simp] theorem setLine_links (j : LineIdx) (ln : TripLine) : (setLine j ln s).links = s.links := rfl
@[simp] theorem setLine_plan (j : LineIdx) (ln : TripLine) : (setLine j ln s).plan = s.plan := rfl
@[simp] theorem setLine_scanner (j : LineIdx) (ln : TripLine) : (setLine j ln s).scanner = s.scanner := rfl
@[simp] theorem setLine_rounds (j : LineIdx) (ln : TripLine) : (setLine j ln s).rounds = s.rounds := rfl
@[simp] theorem setLine_motion (j : LineIdx) (ln : TripLine) : (setLine j ln s).motion = s.motion := rfl
@[simp] theorem setLine_gas (j : LineIdx) (ln : TripLine) : (setLine j ln s).gas = s.gas := rfl
@[simp] theorem setLine_proc (j : LineIdx) (ln : TripLine) : (setLine j ln s).proc = s.proc := rfl
@[simp] theorem setLine_store (j : LineIdx) (ln : TripLine) : (setLine j ln s).store = s.store := rfl
@[simp] theorem setLine_pending (j : LineIdx) (ln : TripLine) : (setLine j ln s).pending = s.pending := rfl

@[simp] theorem setWindowAt_elapsed (w : WindowIdx) (v : Window) : (setWindowAt w v s).elapsed = s.elapsed := rfl
@[simp] theorem setWindowAt_links (w : WindowIdx) (v : Window) : (setWindowAt w v s).links = s.links := rfl
@[simp] theorem setWindowAt_plan (w : WindowIdx) (v : Window) : (setWindowAt w v s).plan = s.plan := rfl
@[simp] theorem setWindowAt_scanner (w : WindowIdx) (v : Window) : (setWindowAt w v s).scanner = s.scanner := rfl
@[simp] theorem setWindowAt_rounds (w : WindowIdx) (v : Window) : (setWindowAt w v s).rounds = s.rounds := rfl
@[simp] theorem setWindowAt_motion (w : WindowIdx) (v : Window) : (setWindowAt w v s).motion = s.motion := rfl
@[simp] theorem setWindowAt_gas (w : WindowIdx) (v : Window) : (setWindowAt w v s).gas = s.gas := rfl
@[simp] theorem setWindowAt_proc (w : WindowIdx) (v : Window) : (setWindowAt w v s).proc = s.proc := rfl
@[simp] theorem setWindowAt_store (w : WindowIdx) (v : Window) : (setWindowAt w v s).store = s.store := rfl
@[simp] theorem setWindowAt_pending (w : WindowIdx) (v : Window) : (setWindowAt w v s).pending = s.pending := rfl

@[simp] theorem deriveCeilings_elapsed : (deriveCeilings s).elapsed = s.elapsed := rfl
@[simp] theorem deriveCeilings_links : (deriveCeilings s).links = s.links := rfl
@[simp] theorem deriveCeilings_plan : (deriveCeilings s).plan = s.plan := rfl
@[simp] theorem deriveCeilings_scanner : (deriveCeilings s).scanner = s.scanner := rfl
@[simp] theorem deriveCeilings_rounds : (deriveCeilings s).rounds = s.rounds := rfl
@[simp] theorem deriveCeilings_motion : (deriveCeilings s).motion = s.motion := rfl
@[simp] theorem deriveCeilings_gas : (deriveCeilings s).gas = s.gas := rfl
@[simp] theorem deriveCeilings_proc : (deriveCeilings s).proc = s.proc := rfl
@[simp] theorem deriveCeilings_store : (deriveCeilings s).store = s.store := rfl
@[simp] theorem deriveCeilings_pending : (deriveCeilings s).pending = s.pending := rfl

@[simp] theorem rollEntries_elapsed (c : Clock) : (rollEntries c s).elapsed = s.elapsed := rfl
@[simp] theorem rollEntries_links (c : Clock) : (rollEntries c s).links = s.links := rfl
@[simp] theorem rollEntries_plan (c : Clock) : (rollEntries c s).plan = s.plan := rfl
@[simp] theorem rollEntries_scanner (c : Clock) : (rollEntries c s).scanner = s.scanner := rfl
@[simp] theorem rollEntries_rounds (c : Clock) : (rollEntries c s).rounds = s.rounds := rfl
@[simp] theorem rollEntries_motion (c : Clock) : (rollEntries c s).motion = s.motion := rfl
@[simp] theorem rollEntries_gas (c : Clock) : (rollEntries c s).gas = s.gas := rfl
@[simp] theorem rollEntries_proc (c : Clock) : (rollEntries c s).proc = s.proc := rfl
@[simp] theorem rollEntries_store (c : Clock) : (rollEntries c s).store = s.store := rfl
@[simp] theorem rollEntries_pending (c : Clock) : (rollEntries c s).pending = s.pending := rfl

@[simp] theorem setLink_elapsed (l : Link) (k : LinkState) : (setLink l k s).elapsed = s.elapsed := rfl
@[simp] theorem setLink_plan (l : Link) (k : LinkState) : (setLink l k s).plan = s.plan := rfl
@[simp] theorem setLink_scanner (l : Link) (k : LinkState) : (setLink l k s).scanner = s.scanner := rfl
@[simp] theorem setLink_rounds (l : Link) (k : LinkState) : (setLink l k s).rounds = s.rounds := rfl
@[simp] theorem setLink_motion (l : Link) (k : LinkState) : (setLink l k s).motion = s.motion := rfl
@[simp] theorem setLink_gas (l : Link) (k : LinkState) : (setLink l k s).gas = s.gas := rfl
@[simp] theorem setLink_trips (l : Link) (k : LinkState) : (setLink l k s).trips = s.trips := rfl
@[simp] theorem setLink_proc (l : Link) (k : LinkState) : (setLink l k s).proc = s.proc := rfl
@[simp] theorem setLink_store (l : Link) (k : LinkState) : (setLink l k s).store = s.store := rfl
@[simp] theorem setLink_pending (l : Link) (k : LinkState) : (setLink l k s).pending = s.pending := rfl

@[simp] theorem sendPoll_elapsed (h : HeadAddr) (rest : List HeadAddr) : (sendPoll h rest s).elapsed = s.elapsed := rfl
@[simp] theorem sendPoll_links (h : HeadAddr) (rest : List HeadAddr) : (sendPoll h rest s).links = s.links := rfl
@[simp] theorem sendPoll_plan (h : HeadAddr) (rest : List HeadAddr) : (sendPoll h rest s).plan = s.plan := rfl
@[simp] theorem sendPoll_rounds (h : HeadAddr) (rest : List HeadAddr) : (sendPoll h rest s).rounds = s.rounds := rfl
@[simp] theorem sendPoll_motion (h : HeadAddr) (rest : List HeadAddr) : (sendPoll h rest s).motion = s.motion := rfl
@[simp] theorem sendPoll_gas (h : HeadAddr) (rest : List HeadAddr) : (sendPoll h rest s).gas = s.gas := rfl
@[simp] theorem sendPoll_trips (h : HeadAddr) (rest : List HeadAddr) : (sendPoll h rest s).trips = s.trips := rfl
@[simp] theorem sendPoll_proc (h : HeadAddr) (rest : List HeadAddr) : (sendPoll h rest s).proc = s.proc := rfl
@[simp] theorem sendPoll_store (h : HeadAddr) (rest : List HeadAddr) : (sendPoll h rest s).store = s.store := rfl
@[simp] theorem sendPoll_pending (h : HeadAddr) (rest : List HeadAddr) : (sendPoll h rest s).pending = s.pending := rfl

@[simp] theorem clearPoll_elapsed : (clearPoll s).elapsed = s.elapsed := rfl
@[simp] theorem clearPoll_links : (clearPoll s).links = s.links := rfl
@[simp] theorem clearPoll_plan : (clearPoll s).plan = s.plan := rfl
@[simp] theorem clearPoll_rounds : (clearPoll s).rounds = s.rounds := rfl
@[simp] theorem clearPoll_motion : (clearPoll s).motion = s.motion := rfl
@[simp] theorem clearPoll_gas : (clearPoll s).gas = s.gas := rfl
@[simp] theorem clearPoll_trips : (clearPoll s).trips = s.trips := rfl
@[simp] theorem clearPoll_proc : (clearPoll s).proc = s.proc := rfl
@[simp] theorem clearPoll_store : (clearPoll s).store = s.store := rfl
@[simp] theorem clearPoll_pending : (clearPoll s).pending = s.pending := rfl

@[simp] theorem beginWrite_elapsed : (beginWrite s).elapsed = s.elapsed := rfl
@[simp] theorem beginWrite_links : (beginWrite s).links = s.links := rfl
@[simp] theorem beginWrite_plan : (beginWrite s).plan = s.plan := rfl
@[simp] theorem beginWrite_scanner : (beginWrite s).scanner = s.scanner := rfl
@[simp] theorem beginWrite_rounds : (beginWrite s).rounds = s.rounds := rfl
@[simp] theorem beginWrite_motion : (beginWrite s).motion = s.motion := rfl
@[simp] theorem beginWrite_gas : (beginWrite s).gas = s.gas := rfl
@[simp] theorem beginWrite_trips : (beginWrite s).trips = s.trips := rfl
@[simp] theorem beginWrite_proc : (beginWrite s).proc = s.proc := rfl
@[simp] theorem beginWrite_pending : (beginWrite s).pending = s.pending := rfl

@[simp] theorem removeEntries_elapsed (sel : SlotIdx → Bool) : (removeEntries sel s).elapsed = s.elapsed := rfl
@[simp] theorem removeEntries_links (sel : SlotIdx → Bool) : (removeEntries sel s).links = s.links := rfl
@[simp] theorem removeEntries_plan (sel : SlotIdx → Bool) : (removeEntries sel s).plan = s.plan := rfl
@[simp] theorem removeEntries_scanner (sel : SlotIdx → Bool) : (removeEntries sel s).scanner = s.scanner := rfl
@[simp] theorem removeEntries_rounds (sel : SlotIdx → Bool) : (removeEntries sel s).rounds = s.rounds := rfl
@[simp] theorem removeEntries_gas (sel : SlotIdx → Bool) : (removeEntries sel s).gas = s.gas := rfl
@[simp] theorem removeEntries_trips (sel : SlotIdx → Bool) : (removeEntries sel s).trips = s.trips := rfl
@[simp] theorem removeEntries_proc (sel : SlotIdx → Bool) : (removeEntries sel s).proc = s.proc := rfl
@[simp] theorem removeEntries_store (sel : SlotIdx → Bool) : (removeEntries sel s).store = s.store := rfl
@[simp] theorem removeEntries_pending (sel : SlotIdx → Bool) : (removeEntries sel s).pending = s.pending := rfl

@[simp] theorem urgentClose_elapsed (sel : SlotIdx → Bool) : (urgentClose sel s).elapsed = s.elapsed := rfl
@[simp] theorem urgentClose_links (sel : SlotIdx → Bool) : (urgentClose sel s).links = s.links := rfl
@[simp] theorem urgentClose_plan (sel : SlotIdx → Bool) : (urgentClose sel s).plan = s.plan := rfl
@[simp] theorem urgentClose_scanner (sel : SlotIdx → Bool) : (urgentClose sel s).scanner = s.scanner := rfl
@[simp] theorem urgentClose_rounds (sel : SlotIdx → Bool) : (urgentClose sel s).rounds = s.rounds := rfl
@[simp] theorem urgentClose_gas (sel : SlotIdx → Bool) : (urgentClose sel s).gas = s.gas := rfl
@[simp] theorem urgentClose_trips (sel : SlotIdx → Bool) : (urgentClose sel s).trips = s.trips := rfl
@[simp] theorem urgentClose_proc (sel : SlotIdx → Bool) : (urgentClose sel s).proc = s.proc := rfl
@[simp] theorem urgentClose_store (sel : SlotIdx → Bool) : (urgentClose sel s).store = s.store := rfl
@[simp] theorem urgentClose_pending (sel : SlotIdx → Bool) : (urgentClose sel s).pending = s.pending := rfl

@[simp] theorem issueEntry_elapsed (k : ZoneIdx) (e : QueueEntry) : (issueEntry k e s).elapsed = s.elapsed := rfl
@[simp] theorem issueEntry_links (k : ZoneIdx) (e : QueueEntry) : (issueEntry k e s).links = s.links := rfl
@[simp] theorem issueEntry_plan (k : ZoneIdx) (e : QueueEntry) : (issueEntry k e s).plan = s.plan := rfl
@[simp] theorem issueEntry_scanner (k : ZoneIdx) (e : QueueEntry) : (issueEntry k e s).scanner = s.scanner := rfl
@[simp] theorem issueEntry_rounds (k : ZoneIdx) (e : QueueEntry) : (issueEntry k e s).rounds = s.rounds := rfl
@[simp] theorem issueEntry_gas (k : ZoneIdx) (e : QueueEntry) : (issueEntry k e s).gas = s.gas := rfl
@[simp] theorem issueEntry_trips (k : ZoneIdx) (e : QueueEntry) : (issueEntry k e s).trips = s.trips := rfl
@[simp] theorem issueEntry_proc (k : ZoneIdx) (e : QueueEntry) : (issueEntry k e s).proc = s.proc := rfl
@[simp] theorem issueEntry_store (k : ZoneIdx) (e : QueueEntry) : (issueEntry k e s).store = s.store := rfl
@[simp] theorem issueEntry_pending (k : ZoneIdx) (e : QueueEntry) : (issueEntry k e s).pending = s.pending := rfl

@[simp] theorem handTargets_elapsed (round : Nat) (hands : SlotIdx → Option Nat) (place : SlotIdx → Nat) : (handTargets round hands place s).elapsed = s.elapsed := rfl
@[simp] theorem handTargets_links (round : Nat) (hands : SlotIdx → Option Nat) (place : SlotIdx → Nat) : (handTargets round hands place s).links = s.links := rfl
@[simp] theorem handTargets_plan (round : Nat) (hands : SlotIdx → Option Nat) (place : SlotIdx → Nat) : (handTargets round hands place s).plan = s.plan := rfl
@[simp] theorem handTargets_scanner (round : Nat) (hands : SlotIdx → Option Nat) (place : SlotIdx → Nat) : (handTargets round hands place s).scanner = s.scanner := rfl
@[simp] theorem handTargets_rounds (round : Nat) (hands : SlotIdx → Option Nat) (place : SlotIdx → Nat) : (handTargets round hands place s).rounds = s.rounds := rfl
@[simp] theorem handTargets_gas (round : Nat) (hands : SlotIdx → Option Nat) (place : SlotIdx → Nat) : (handTargets round hands place s).gas = s.gas := rfl
@[simp] theorem handTargets_trips (round : Nat) (hands : SlotIdx → Option Nat) (place : SlotIdx → Nat) : (handTargets round hands place s).trips = s.trips := rfl
@[simp] theorem handTargets_proc (round : Nat) (hands : SlotIdx → Option Nat) (place : SlotIdx → Nat) : (handTargets round hands place s).proc = s.proc := rfl
@[simp] theorem handTargets_store (round : Nat) (hands : SlotIdx → Option Nat) (place : SlotIdx → Nat) : (handTargets round hands place s).store = s.store := rfl
@[simp] theorem handTargets_pending (round : Nat) (hands : SlotIdx → Option Nat) (place : SlotIdx → Nat) : (handTargets round hands place s).pending = s.pending := rfl

@[simp] theorem migrateQueues_elapsed : (migrateQueues s).elapsed = s.elapsed := rfl
@[simp] theorem migrateQueues_links : (migrateQueues s).links = s.links := rfl
@[simp] theorem migrateQueues_plan : (migrateQueues s).plan = s.plan := rfl
@[simp] theorem migrateQueues_scanner : (migrateQueues s).scanner = s.scanner := rfl
@[simp] theorem migrateQueues_rounds : (migrateQueues s).rounds = s.rounds := rfl
@[simp] theorem migrateQueues_gas : (migrateQueues s).gas = s.gas := rfl
@[simp] theorem migrateQueues_trips : (migrateQueues s).trips = s.trips := rfl
@[simp] theorem migrateQueues_proc : (migrateQueues s).proc = s.proc := rfl
@[simp] theorem migrateQueues_store : (migrateQueues s).store = s.store := rfl
@[simp] theorem migrateQueues_pending : (migrateQueues s).pending = s.pending := rfl

@[simp] theorem closeManifold_elapsed : (closeManifold s).elapsed = s.elapsed := rfl
@[simp] theorem closeManifold_links : (closeManifold s).links = s.links := rfl
@[simp] theorem closeManifold_plan : (closeManifold s).plan = s.plan := rfl
@[simp] theorem closeManifold_scanner : (closeManifold s).scanner = s.scanner := rfl
@[simp] theorem closeManifold_rounds : (closeManifold s).rounds = s.rounds := rfl
@[simp] theorem closeManifold_gas : (closeManifold s).gas = s.gas := rfl
@[simp] theorem closeManifold_trips : (closeManifold s).trips = s.trips := rfl
@[simp] theorem closeManifold_proc : (closeManifold s).proc = s.proc := rfl
@[simp] theorem closeManifold_store : (closeManifold s).store = s.store := rfl
@[simp] theorem closeManifold_pending : (closeManifold s).pending = s.pending := rfl

@[simp] theorem markMissed_elapsed : (markMissed s).elapsed = s.elapsed := rfl
@[simp] theorem markMissed_links : (markMissed s).links = s.links := rfl
@[simp] theorem markMissed_plan : (markMissed s).plan = s.plan := rfl
@[simp] theorem markMissed_scanner : (markMissed s).scanner = s.scanner := rfl
@[simp] theorem markMissed_motion : (markMissed s).motion = s.motion := rfl
@[simp] theorem markMissed_gas : (markMissed s).gas = s.gas := rfl
@[simp] theorem markMissed_trips : (markMissed s).trips = s.trips := rfl
@[simp] theorem markMissed_proc : (markMissed s).proc = s.proc := rfl
@[simp] theorem markMissed_store : (markMissed s).store = s.store := rfl
@[simp] theorem markMissed_pending : (markMissed s).pending = s.pending := rfl

@[simp] theorem restartWindow_elapsed (ts : List TestPlace) : (restartWindow ts s).elapsed = s.elapsed := rfl
@[simp] theorem restartWindow_links (ts : List TestPlace) : (restartWindow ts s).links = s.links := rfl
@[simp] theorem restartWindow_plan (ts : List TestPlace) : (restartWindow ts s).plan = s.plan := rfl
@[simp] theorem restartWindow_scanner (ts : List TestPlace) : (restartWindow ts s).scanner = s.scanner := rfl
@[simp] theorem restartWindow_rounds (ts : List TestPlace) : (restartWindow ts s).rounds = s.rounds := rfl
@[simp] theorem restartWindow_motion (ts : List TestPlace) : (restartWindow ts s).motion = s.motion := rfl
@[simp] theorem restartWindow_gas (ts : List TestPlace) : (restartWindow ts s).gas = s.gas := rfl
@[simp] theorem restartWindow_trips (ts : List TestPlace) : (restartWindow ts s).trips = s.trips := rfl
@[simp] theorem restartWindow_store (ts : List TestPlace) : (restartWindow ts s).store = s.store := rfl
@[simp] theorem restartWindow_pending (ts : List TestPlace) : (restartWindow ts s).pending = s.pending := rfl

@[simp] theorem answered_elapsed (l : Link) (code : Byte) (r : Result) (data : List Byte) : (answered l code r data s).elapsed = s.elapsed := rfl
@[simp] theorem answered_plan (l : Link) (code : Byte) (r : Result) (data : List Byte) : (answered l code r data s).plan = s.plan := rfl
@[simp] theorem answered_scanner (l : Link) (code : Byte) (r : Result) (data : List Byte) : (answered l code r data s).scanner = s.scanner := rfl
@[simp] theorem answered_rounds (l : Link) (code : Byte) (r : Result) (data : List Byte) : (answered l code r data s).rounds = s.rounds := rfl
@[simp] theorem answered_motion (l : Link) (code : Byte) (r : Result) (data : List Byte) : (answered l code r data s).motion = s.motion := rfl
@[simp] theorem answered_gas (l : Link) (code : Byte) (r : Result) (data : List Byte) : (answered l code r data s).gas = s.gas := rfl
@[simp] theorem answered_trips (l : Link) (code : Byte) (r : Result) (data : List Byte) : (answered l code r data s).trips = s.trips := rfl
@[simp] theorem answered_proc (l : Link) (code : Byte) (r : Result) (data : List Byte) : (answered l code r data s).proc = s.proc := rfl
@[simp] theorem answered_store (l : Link) (code : Byte) (r : Result) (data : List Byte) : (answered l code r data s).store = s.store := rfl
@[simp] theorem answered_pending (l : Link) (code : Byte) (r : Result) (data : List Byte) : (answered l code r data s).pending = s.pending := rfl

@[simp] theorem discarded_elapsed (l : Link) : (discarded l s).elapsed = s.elapsed := rfl
@[simp] theorem discarded_plan (l : Link) : (discarded l s).plan = s.plan := rfl
@[simp] theorem discarded_scanner (l : Link) : (discarded l s).scanner = s.scanner := rfl
@[simp] theorem discarded_rounds (l : Link) : (discarded l s).rounds = s.rounds := rfl
@[simp] theorem discarded_motion (l : Link) : (discarded l s).motion = s.motion := rfl
@[simp] theorem discarded_gas (l : Link) : (discarded l s).gas = s.gas := rfl
@[simp] theorem discarded_trips (l : Link) : (discarded l s).trips = s.trips := rfl
@[simp] theorem discarded_proc (l : Link) : (discarded l s).proc = s.proc := rfl
@[simp] theorem discarded_store (l : Link) : (discarded l s).store = s.store := rfl
@[simp] theorem discarded_pending (l : Link) : (discarded l s).pending = s.pending := rfl

@[simp] theorem answer_elapsed (l : Link) (code : Byte) (a : Answer) : (answer l code a s).elapsed = s.elapsed := rfl
@[simp] theorem answer_plan (l : Link) (code : Byte) (a : Answer) : (answer l code a s).plan = s.plan := rfl
@[simp] theorem answer_scanner (l : Link) (code : Byte) (a : Answer) : (answer l code a s).scanner = s.scanner := rfl
@[simp] theorem answer_rounds (l : Link) (code : Byte) (a : Answer) : (answer l code a s).rounds = s.rounds := rfl
@[simp] theorem answer_motion (l : Link) (code : Byte) (a : Answer) : (answer l code a s).motion = s.motion := rfl
@[simp] theorem answer_gas (l : Link) (code : Byte) (a : Answer) : (answer l code a s).gas = s.gas := rfl
@[simp] theorem answer_trips (l : Link) (code : Byte) (a : Answer) : (answer l code a s).trips = s.trips := rfl
@[simp] theorem answer_proc (l : Link) (code : Byte) (a : Answer) : (answer l code a s).proc = s.proc := rfl
@[simp] theorem answer_store (l : Link) (code : Byte) (a : Answer) : (answer l code a s).store = s.store := rfl
@[simp] theorem answer_pending (l : Link) (code : Byte) (a : Answer) : (answer l code a s).pending = s.pending := rfl

@[simp] theorem huntAgain_elapsed (l : Link) : (huntAgain l s).elapsed = s.elapsed := rfl
@[simp] theorem huntAgain_plan (l : Link) : (huntAgain l s).plan = s.plan := rfl
@[simp] theorem huntAgain_scanner (l : Link) : (huntAgain l s).scanner = s.scanner := rfl
@[simp] theorem huntAgain_rounds (l : Link) : (huntAgain l s).rounds = s.rounds := rfl
@[simp] theorem huntAgain_motion (l : Link) : (huntAgain l s).motion = s.motion := rfl
@[simp] theorem huntAgain_gas (l : Link) : (huntAgain l s).gas = s.gas := rfl
@[simp] theorem huntAgain_trips (l : Link) : (huntAgain l s).trips = s.trips := rfl
@[simp] theorem huntAgain_proc (l : Link) : (huntAgain l s).proc = s.proc := rfl
@[simp] theorem huntAgain_store (l : Link) : (huntAgain l s).store = s.store := rfl
@[simp] theorem huntAgain_pending (l : Link) : (huntAgain l s).pending = s.pending := rfl


/-! ## What an update writes -/

@[simp] theorem setRoster_roster (i : SlotIdx) (r : Roster) :
    (setRoster i r s).plan.roster = s.plan.roster.set i r := rfl
@[simp] theorem setRoster_active (i : SlotIdx) (r : Roster) :
    (setRoster i r s).plan.active = s.plan.active := rfl
@[simp] theorem setRoster_pendingPlan (i : SlotIdx) (r : Roster) :
    (setRoster i r s).plan.pendingPlan = s.plan.pendingPlan := rfl
@[simp] theorem setRoster_adoption (i : SlotIdx) (r : Roster) :
    (setRoster i r s).plan.adoption = s.plan.adoption := rfl
@[simp] theorem setValve_valves (i : SlotIdx) (v : Valve) :
    (setValve i v s).motion.valves = s.motion.valves.set i v := rfl
@[simp] theorem setValve_queues (i : SlotIdx) (v : Valve) :
    (setValve i v s).motion.queues = s.motion.queues := rfl
@[simp] theorem removeEntries_valves (sel : SlotIdx → Bool) :
    (removeEntries sel s).motion.valves = s.motion.valves := rfl
@[simp] theorem setHead_heads (i : SlotIdx) (h : Option Head) :
    (setHead i h s).scanner.heads = s.scanner.heads.set i h := rfl
@[simp] theorem setHead_records (i : SlotIdx) (h : Option Head) :
    (setHead i h s).scanner.records = s.scanner.records := rfl
@[simp] theorem setRecord_records (i : SlotIdx) (r : Option ReadingRecord) :
    (setRecord i r s).scanner.records = s.scanner.records.set i r := rfl
@[simp] theorem setRecord_heads (i : SlotIdx) (r : Option ReadingRecord) :
    (setRecord i r s).scanner.heads = s.scanner.heads := rfl
@[simp] theorem setProc_proc (p : Procedure) : (setProc p s).proc = p := rfl
@[simp] theorem migrateQueues_valves : (migrateQueues s).motion.valves = s.motion.valves := rfl

/-! ## One link among the three -/

@[simp] theorem Links.get_set_self (ls : Links) (l : Link) (k : LinkState) : (ls.set l k).get l = k := by
  cases l <;> rfl
@[simp] theorem Links.get_set_ne (ls : Links) {l m : Link} (k : LinkState) (h : m ≠ l) :
    (ls.set l k).get m = ls.get m := by
  cases l <;> cases m <;> first | rfl | exact absurd rfl h
@[simp] theorem Links.get_map (f : LinkState → LinkState) (ls : Links) (l : Link) :
    (ls.map f).get l = f (ls.get l) := by
  cases l <;> rfl
@[simp] theorem Links.set_set (ls : Links) (l : Link) (j k : LinkState) :
    (ls.set l j).set l k = ls.set l k := by
  cases l <;> rfl
@[simp] theorem Links.set_get (ls : Links) (l : Link) : ls.set l (ls.get l) = ls := by
  cases l <;> rfl
theorem Links.map_set (f : LinkState → LinkState) (ls : Links) (l : Link) (k : LinkState) :
    (ls.set l k).map f = (ls.map f).set l (f k) := by
  cases l <;> rfl

end Sys2Proof.Machine
end

