-- ==== Sys2Proof/Laws/Frames.lean ====
section
/-! SUPPORT. The frames of the shared operations: the blocks that each of them leaves as they were. -/

namespace Sys2Proof.Machine

variable (s : State)

/-! ## Conditional notices and requests -/

@[simp] theorem raiseIf_elapsed (b : Bool) (f : Notice) : (raiseIf b f s).elapsed = s.elapsed := by
  cases b <;> rfl
@[simp] theorem raiseIf_plan (b : Bool) (f : Notice) : (raiseIf b f s).plan = s.plan := by
  cases b <;> rfl
@[simp] theorem raiseIf_scanner (b : Bool) (f : Notice) : (raiseIf b f s).scanner = s.scanner := by
  cases b <;> rfl
@[simp] theorem raiseIf_rounds (b : Bool) (f : Notice) : (raiseIf b f s).rounds = s.rounds := by
  cases b <;> rfl
@[simp] theorem raiseIf_motion (b : Bool) (f : Notice) : (raiseIf b f s).motion = s.motion := by
  cases b <;> rfl
@[simp] theorem raiseIf_gas (b : Bool) (f : Notice) : (raiseIf b f s).gas = s.gas := by
  cases b <;> rfl
@[simp] theorem raiseIf_trips (b : Bool) (f : Notice) : (raiseIf b f s).trips = s.trips := by
  cases b <;> rfl
@[simp] theorem raiseIf_proc (b : Bool) (f : Notice) : (raiseIf b f s).proc = s.proc := by
  cases b <;> rfl
@[simp] theorem raiseIf_store (b : Bool) (f : Notice) : (raiseIf b f s).store = s.store := by
  cases b <;> rfl
@[simp] theorem raiseIf_pending (b : Bool) (f : Notice) : (raiseIf b f s).pending = s.pending := by
  cases b <;> rfl

@[simp] theorem requestRoundIf_elapsed (b : Bool) : (requestRoundIf b s).elapsed = s.elapsed := by
  cases b <;> rfl
@[simp] theorem requestRoundIf_links (b : Bool) : (requestRoundIf b s).links = s.links := by
  cases b <;> rfl
@[simp] theorem requestRoundIf_plan (b : Bool) : (requestRoundIf b s).plan = s.plan := by
  cases b <;> rfl
@[simp] theorem requestRoundIf_scanner (b : Bool) : (requestRoundIf b s).scanner = s.scanner := by
  cases b <;> rfl
@[simp] theorem requestRoundIf_motion (b : Bool) : (requestRoundIf b s).motion = s.motion := by
  cases b <;> rfl
@[simp] theorem requestRoundIf_gas (b : Bool) : (requestRoundIf b s).gas = s.gas := by
  cases b <;> rfl
@[simp] theorem requestRoundIf_trips (b : Bool) : (requestRoundIf b s).trips = s.trips := by
  cases b <;> rfl
@[simp] theorem requestRoundIf_proc (b : Bool) : (requestRoundIf b s).proc = s.proc := by
  cases b <;> rfl
@[simp] theorem requestRoundIf_store (b : Bool) : (requestRoundIf b s).store = s.store := by
  cases b <;> rfl
@[simp] theorem requestRoundIf_pending (b : Bool) : (requestRoundIf b s).pending = s.pending := by
  cases b <;> rfl

/-! ## Valve motion -/

@[simp] theorem issueLoop_elapsed (n : Nat) (k : ZoneIdx) : (issueLoop n k s).elapsed = s.elapsed := by
  induction n generalizing s with
  | zero => rfl
  | succ n ih =>
    rw [issueLoop]
    split
    · rfl
    · rw [ih, issueEntry_elapsed]
@[simp] theorem issueLoop_links (n : Nat) (k : ZoneIdx) : (issueLoop n k s).links = s.links := by
  induction n generalizing s with
  | zero => rfl
  | succ n ih =>
    rw [issueLoop]
    split
    · rfl
    · rw [ih, issueEntry_links]
@[simp] theorem issueLoop_plan (n : Nat) (k : ZoneIdx) : (issueLoop n k s).plan = s.plan := by
  induction n generalizing s with
  | zero => rfl
  | succ n ih =>
    rw [issueLoop]
    split
    · rfl
    · rw [ih, issueEntry_plan]
@[simp] theorem issueLoop_scanner (n : Nat) (k : ZoneIdx) : (issueLoop n k s).scanner = s.scanner := by
  induction n generalizing s with
  | zero => rfl
  | succ n ih =>
    rw [issueLoop]
    split
    · rfl
    · rw [ih, issueEntry_scanner]
@[simp] theorem issueLoop_rounds (n : Nat) (k : ZoneIdx) : (issueLoop n k s).rounds = s.rounds := by
  induction n generalizing s with
  | zero => rfl
  | succ n ih =>
    rw [issueLoop]
    split
    · rfl
    · rw [ih, issueEntry_rounds]
@[simp] theorem issueLoop_gas (n : Nat) (k : ZoneIdx) : (issueLoop n k s).gas = s.gas := by
  induction n generalizing s with
  | zero => rfl
  | succ n ih =>
    rw [issueLoop]
    split
    · rfl
    · rw [ih, issueEntry_gas]
@[simp] theorem issueLoop_trips (n : Nat) (k : ZoneIdx) : (issueLoop n k s).trips = s.trips := by
  induction n generalizing s with
  | zero => rfl
  | succ n ih =>
    rw [issueLoop]
    split
    · rfl
    · rw [ih, issueEntry_trips]
@[simp] theorem issueLoop_proc (n : Nat) (k : ZoneIdx) : (issueLoop n k s).proc = s.proc := by
  induction n generalizing s with
  | zero => rfl
  | succ n ih =>
    rw [issueLoop]
    split
    · rfl
    · rw [ih, issueEntry_proc]
@[simp] theorem issueLoop_store (n : Nat) (k : ZoneIdx) : (issueLoop n k s).store = s.store := by
  induction n generalizing s with
  | zero => rfl
  | succ n ih =>
    rw [issueLoop]
    split
    · rfl
    · rw [ih, issueEntry_store]
@[simp] theorem issueLoop_pending (n : Nat) (k : ZoneIdx) : (issueLoop n k s).pending = s.pending := by
  induction n generalizing s with
  | zero => rfl
  | succ n ih =>
    rw [issueLoop]
    split
    · rfl
    · rw [ih, issueEntry_pending]

@[simp] theorem issueZone_elapsed (k : ZoneIdx) : (issueZone k s).elapsed = s.elapsed := issueLoop_elapsed s _ k
@[simp] theorem issueZone_links (k : ZoneIdx) : (issueZone k s).links = s.links := issueLoop_links s _ k
@[simp] theorem issueZone_plan (k : ZoneIdx) : (issueZone k s).plan = s.plan := issueLoop_plan s _ k
@[simp] theorem issueZone_scanner (k : ZoneIdx) : (issueZone k s).scanner = s.scanner := issueLoop_scanner s _ k
@[simp] theorem issueZone_rounds (k : ZoneIdx) : (issueZone k s).rounds = s.rounds := issueLoop_rounds s _ k
@[simp] theorem issueZone_gas (k : ZoneIdx) : (issueZone k s).gas = s.gas := issueLoop_gas s _ k
@[simp] theorem issueZone_trips (k : ZoneIdx) : (issueZone k s).trips = s.trips := issueLoop_trips s _ k
@[simp] theorem issueZone_proc (k : ZoneIdx) : (issueZone k s).proc = s.proc := issueLoop_proc s _ k
@[simp] theorem issueZone_store (k : ZoneIdx) : (issueZone k s).store = s.store := issueLoop_store s _ k
@[simp] theorem issueZone_pending (k : ZoneIdx) : (issueZone k s).pending = s.pending := issueLoop_pending s _ k
theorem issueFold_elapsed (ks : List ZoneIdx) :
    (ks.foldl (fun t k => issueZone k t) s).elapsed = s.elapsed := by
  induction ks generalizing s with
  | nil => rfl
  | cons k ks ih => rw [List.foldl_cons, ih, issueZone_elapsed]

@[simp] theorem issueAll_elapsed : (issueAll s).elapsed = s.elapsed := issueFold_elapsed s allZones

theorem issueFold_links (ks : List ZoneIdx) :
    (ks.foldl (fun t k => issueZone k t) s).links = s.links := by
  induction ks generalizing s with
  | nil => rfl
  | cons k ks ih => rw [List.foldl_cons, ih, issueZone_links]

@[simp] theorem issueAll_links : (issueAll s).links = s.links := issueFold_links s allZones

theorem issueFold_plan (ks : List ZoneIdx) :
    (ks.foldl (fun t k => issueZone k t) s).plan = s.plan := by
  induction ks generalizing s with
  | nil => rfl
  | cons k ks ih => rw [List.foldl_cons, ih, issueZone_plan]

@[simp] theorem issueAll_plan : (issueAll s).plan = s.plan := issueFold_plan s allZones

theorem issueFold_scanner (ks : List ZoneIdx) :
    (ks.foldl (fun t k => issueZone k t) s).scanner = s.scanner := by
  induction ks generalizing s with
  | nil => rfl
  | cons k ks ih => rw [List.foldl_cons, ih, issueZone_scanner]

@[simp] theorem issueAll_scanner : (issueAll s).scanner = s.scanner := issueFold_scanner s allZones

theorem issueFold_rounds (ks : List ZoneIdx) :
    (ks.foldl (fun t k => issueZone k t) s).rounds = s.rounds := by
  induction ks generalizing s with
  | nil => rfl
  | cons k ks ih => rw [List.foldl_cons, ih, issueZone_rounds]

@[simp] theorem issueAll_rounds : (issueAll s).rounds = s.rounds := issueFold_rounds s allZones

theorem issueFold_gas (ks : List ZoneIdx) :
    (ks.foldl (fun t k => issueZone k t) s).gas = s.gas := by
  induction ks generalizing s with
  | nil => rfl
  | cons k ks ih => rw [List.foldl_cons, ih, issueZone_gas]

@[simp] theorem issueAll_gas : (issueAll s).gas = s.gas := issueFold_gas s allZones

theorem issueFold_trips (ks : List ZoneIdx) :
    (ks.foldl (fun t k => issueZone k t) s).trips = s.trips := by
  induction ks generalizing s with
  | nil => rfl
  | cons k ks ih => rw [List.foldl_cons, ih, issueZone_trips]

@[simp] theorem issueAll_trips : (issueAll s).trips = s.trips := issueFold_trips s allZones

theorem issueFold_proc (ks : List ZoneIdx) :
    (ks.foldl (fun t k => issueZone k t) s).proc = s.proc := by
  induction ks generalizing s with
  | nil => rfl
  | cons k ks ih => rw [List.foldl_cons, ih, issueZone_proc]

@[simp] theorem issueAll_proc : (issueAll s).proc = s.proc := issueFold_proc s allZones

theorem issueFold_store (ks : List ZoneIdx) :
    (ks.foldl (fun t k => issueZone k t) s).store = s.store := by
  induction ks generalizing s with
  | nil => rfl
  | cons k ks ih => rw [List.foldl_cons, ih, issueZone_store]

@[simp] theorem issueAll_store : (issueAll s).store = s.store := issueFold_store s allZones

theorem issueFold_pending (ks : List ZoneIdx) :
    (ks.foldl (fun t k => issueZone k t) s).pending = s.pending := by
  induction ks generalizing s with
  | nil => rfl
  | cons k ks ih => rw [List.foldl_cons, ih, issueZone_pending]

@[simp] theorem issueAll_pending : (issueAll s).pending = s.pending := issueFold_pending s allZones

@[simp] theorem closeSlot_elapsed (i : SlotIdx) : (closeSlot i s).elapsed = s.elapsed := by simp [closeSlot]
@[simp] theorem closeSlot_links (i : SlotIdx) : (closeSlot i s).links = s.links := by simp [closeSlot]
@[simp] theorem closeSlot_plan (i : SlotIdx) : (closeSlot i s).plan = s.plan := by simp [closeSlot]
@[simp] theorem closeSlot_scanner (i : SlotIdx) : (closeSlot i s).scanner = s.scanner := by simp [closeSlot]
@[simp] theorem closeSlot_rounds (i : SlotIdx) : (closeSlot i s).rounds = s.rounds := by simp [closeSlot]
@[simp] theorem closeSlot_gas (i : SlotIdx) : (closeSlot i s).gas = s.gas := by simp [closeSlot]
@[simp] theorem closeSlot_trips (i : SlotIdx) : (closeSlot i s).trips = s.trips := by simp [closeSlot]
@[simp] theorem closeSlot_proc (i : SlotIdx) : (closeSlot i s).proc = s.proc := by simp [closeSlot]
@[simp] theorem closeSlot_store (i : SlotIdx) : (closeSlot i s).store = s.store := by simp [closeSlot]
@[simp] theorem closeSlot_pending (i : SlotIdx) : (closeSlot i s).pending = s.pending := by simp [closeSlot]

@[simp] theorem closeSlots_elapsed (sel : SlotIdx → Bool) : (closeSlots sel s).elapsed = s.elapsed := by simp [closeSlots]
@[simp] theorem closeSlots_links (sel : SlotIdx → Bool) : (closeSlots sel s).links = s.links := by simp [closeSlots]
@[simp] theorem closeSlots_plan (sel : SlotIdx → Bool) : (closeSlots sel s).plan = s.plan := by simp [closeSlots]
@[simp] theorem closeSlots_scanner (sel : SlotIdx → Bool) : (closeSlots sel s).scanner = s.scanner := by simp [closeSlots]
@[simp] theorem closeSlots_rounds (sel : SlotIdx → Bool) : (closeSlots sel s).rounds = s.rounds := by simp [closeSlots]
@[simp] theorem closeSlots_gas (sel : SlotIdx → Bool) : (closeSlots sel s).gas = s.gas := by simp [closeSlots]
@[simp] theorem closeSlots_trips (sel : SlotIdx → Bool) : (closeSlots sel s).trips = s.trips := by simp [closeSlots]
@[simp] theorem closeSlots_proc (sel : SlotIdx → Bool) : (closeSlots sel s).proc = s.proc := by simp [closeSlots]
@[simp] theorem closeSlots_store (sel : SlotIdx → Bool) : (closeSlots sel s).store = s.store := by simp [closeSlots]
@[simp] theorem closeSlots_pending (sel : SlotIdx → Bool) : (closeSlots sel s).pending = s.pending := by simp [closeSlots]

/-! ## Procedures and valves that stick -/

@[simp] theorem finishProcedure_elapsed : (finishProcedure  s).elapsed = s.elapsed := by simp [finishProcedure]
@[simp] theorem finishProcedure_plan : (finishProcedure  s).plan = s.plan := by simp [finishProcedure]
@[simp] theorem finishProcedure_scanner : (finishProcedure  s).scanner = s.scanner := by simp [finishProcedure]
@[simp] theorem finishProcedure_rounds : (finishProcedure  s).rounds = s.rounds := by simp [finishProcedure]
@[simp] theorem finishProcedure_motion : (finishProcedure  s).motion = s.motion := by simp [finishProcedure]
@[simp] theorem finishProcedure_gas : (finishProcedure  s).gas = s.gas := by simp [finishProcedure]
@[simp] theorem finishProcedure_trips : (finishProcedure  s).trips = s.trips := by simp [finishProcedure]
@[simp] theorem finishProcedure_store : (finishProcedure  s).store = s.store := by simp [finishProcedure]
@[simp] theorem finishProcedure_pending : (finishProcedure  s).pending = s.pending := by simp [finishProcedure]

@[simp] theorem finishIfEmpty_elapsed : (finishIfEmpty  s).elapsed = s.elapsed := by
  unfold finishIfEmpty
  repeat' split
  all_goals simp
@[simp] theorem finishIfEmpty_plan : (finishIfEmpty  s).plan = s.plan := by
  unfold finishIfEmpty
  repeat' split
  all_goals simp
@[simp] theorem finishIfEmpty_scanner : (finishIfEmpty  s).scanner = s.scanner := by
  unfold finishIfEmpty
  repeat' split
  all_goals simp
@[simp] theorem finishIfEmpty_rounds : (finishIfEmpty  s).rounds = s.rounds := by
  unfold finishIfEmpty
  repeat' split
  all_goals simp
@[simp] theorem finishIfEmpty_motion : (finishIfEmpty  s).motion = s.motion := by
  unfold finishIfEmpty
  repeat' split
  all_goals simp
@[simp] theorem finishIfEmpty_gas : (finishIfEmpty  s).gas = s.gas := by
  unfold finishIfEmpty
  repeat' split
  all_goals simp
@[simp] theorem finishIfEmpty_trips : (finishIfEmpty  s).trips = s.trips := by
  unfold finishIfEmpty
  repeat' split
  all_goals simp
@[simp] theorem finishIfEmpty_store : (finishIfEmpty  s).store = s.store := by
  unfold finishIfEmpty
  repeat' split
  all_goals simp
@[simp] theorem finishIfEmpty_pending : (finishIfEmpty  s).pending = s.pending := by
  unfold finishIfEmpty
  repeat' split
  all_goals simp

@[simp] theorem enterMeasuring_elapsed : (enterMeasuring  s).elapsed = s.elapsed := by
  unfold enterMeasuring
  repeat' split
  all_goals simp
@[simp] theorem enterMeasuring_plan : (enterMeasuring  s).plan = s.plan := by
  unfold enterMeasuring
  repeat' split
  all_goals simp
@[simp] theorem enterMeasuring_scanner : (enterMeasuring  s).scanner = s.scanner := by
  unfold enterMeasuring
  repeat' split
  all_goals simp
@[simp] theorem enterMeasuring_rounds : (enterMeasuring  s).rounds = s.rounds := by
  unfold enterMeasuring
  repeat' split
  all_goals simp
@[simp] theorem enterMeasuring_motion : (enterMeasuring  s).motion = s.motion := by
  unfold enterMeasuring
  repeat' split
  all_goals simp
@[simp] theorem enterMeasuring_gas : (enterMeasuring  s).gas = s.gas := by
  unfold enterMeasuring
  repeat' split
  all_goals simp
@[simp] theorem enterMeasuring_trips : (enterMeasuring  s).trips = s.trips := by
  unfold enterMeasuring
  repeat' split
  all_goals simp
@[simp] theorem enterMeasuring_store : (enterMeasuring  s).store = s.store := by
  unfold enterMeasuring
  repeat' split
  all_goals simp
@[simp] theorem enterMeasuring_pending : (enterMeasuring  s).pending = s.pending := by
  unfold enterMeasuring
  repeat' split
  all_goals simp

@[simp] theorem examineSettling_elapsed : (examineSettling  s).elapsed = s.elapsed := by
  unfold examineSettling
  repeat' split
  all_goals simp
@[simp] theorem examineSettling_plan : (examineSettling  s).plan = s.plan := by
  unfold examineSettling
  repeat' split
  all_goals simp
@[simp] theorem examineSettling_scanner : (examineSettling  s).scanner = s.scanner := by
  unfold examineSettling
  repeat' split
  all_goals simp
@[simp] theorem examineSettling_rounds : (examineSettling  s).rounds = s.rounds := by
  unfold examineSettling
  repeat' split
  all_goals simp
@[simp] theorem examineSettling_motion : (examineSettling  s).motion = s.motion := by
  unfold examineSettling
  repeat' split
  all_goals simp
@[simp] theorem examineSettling_gas : (examineSettling  s).gas = s.gas := by
  unfold examineSettling
  repeat' split
  all_goals simp
@[simp] theorem examineSettling_trips : (examineSettling  s).trips = s.trips := by
  unfold examineSettling
  repeat' split
  all_goals simp
@[simp] theorem examineSettling_store : (examineSettling  s).store = s.store := by
  unfold examineSettling
  repeat' split
  all_goals simp
@[simp] theorem examineSettling_pending : (examineSettling  s).pending = s.pending := by
  unfold examineSettling
  repeat' split
  all_goals simp

@[simp] theorem sealSlot_elapsed (i : SlotIdx) : (sealSlot i s).elapsed = s.elapsed := by
  unfold sealSlot
  repeat' split
  all_goals simp
@[simp] theorem sealSlot_plan (i : SlotIdx) : (sealSlot i s).plan = s.plan := by
  unfold sealSlot
  repeat' split
  all_goals simp
@[simp] theorem sealSlot_scanner (i : SlotIdx) : (sealSlot i s).scanner = s.scanner := by
  unfold sealSlot
  repeat' split
  all_goals simp
@[simp] theorem sealSlot_rounds (i : SlotIdx) : (sealSlot i s).rounds = s.rounds := by
  unfold sealSlot
  repeat' split
  all_goals simp
@[simp] theorem sealSlot_motion (i : SlotIdx) : (sealSlot i s).motion = s.motion := by
  unfold sealSlot
  repeat' split
  all_goals simp
@[simp] theorem sealSlot_gas (i : SlotIdx) : (sealSlot i s).gas = s.gas := by
  unfold sealSlot
  repeat' split
  all_goals simp
@[simp] theorem sealSlot_trips (i : SlotIdx) : (sealSlot i s).trips = s.trips := by
  unfold sealSlot
  repeat' split
  all_goals simp
@[simp] theorem sealSlot_store (i : SlotIdx) : (sealSlot i s).store = s.store := by
  unfold sealSlot
  repeat' split
  all_goals simp
@[simp] theorem sealSlot_pending (i : SlotIdx) : (sealSlot i s).pending = s.pending := by
  unfold sealSlot
  repeat' split
  all_goals simp

@[simp] theorem dropStuck_elapsed (i : SlotIdx) : (dropStuck i s).elapsed = s.elapsed := by
  unfold dropStuck
  repeat' split
  all_goals simp
@[simp] theorem dropStuck_plan (i : SlotIdx) : (dropStuck i s).plan = s.plan := by
  unfold dropStuck
  repeat' split
  all_goals simp
@[simp] theorem dropStuck_scanner (i : SlotIdx) : (dropStuck i s).scanner = s.scanner := by
  unfold dropStuck
  repeat' split
  all_goals simp
@[simp] theorem dropStuck_rounds (i : SlotIdx) : (dropStuck i s).rounds = s.rounds := by
  unfold dropStuck
  repeat' split
  all_goals simp
@[simp] theorem dropStuck_motion (i : SlotIdx) : (dropStuck i s).motion = s.motion := by
  unfold dropStuck
  repeat' split
  all_goals simp
@[simp] theorem dropStuck_gas (i : SlotIdx) : (dropStuck i s).gas = s.gas := by
  unfold dropStuck
  repeat' split
  all_goals simp
@[simp] theorem dropStuck_trips (i : SlotIdx) : (dropStuck i s).trips = s.trips := by
  unfold dropStuck
  repeat' split
  all_goals simp
@[simp] theorem dropStuck_store (i : SlotIdx) : (dropStuck i s).store = s.store := by
  unfold dropStuck
  repeat' split
  all_goals simp
@[simp] theorem dropStuck_pending (i : SlotIdx) : (dropStuck i s).pending = s.pending := by
  unfold dropStuck
  repeat' split
  all_goals simp

@[simp] theorem dropSilent_elapsed (i : SlotIdx) : (dropSilent i s).elapsed = s.elapsed := by
  unfold dropSilent
  repeat' split
  all_goals simp
@[simp] theorem dropSilent_plan (i : SlotIdx) : (dropSilent i s).plan = s.plan := by
  unfold dropSilent
  repeat' split
  all_goals simp
@[simp] theorem dropSilent_scanner (i : SlotIdx) : (dropSilent i s).scanner = s.scanner := by
  unfold dropSilent
  repeat' split
  all_goals simp
@[simp] theorem dropSilent_rounds (i : SlotIdx) : (dropSilent i s).rounds = s.rounds := by
  unfold dropSilent
  repeat' split
  all_goals simp
@[simp] theorem dropSilent_motion (i : SlotIdx) : (dropSilent i s).motion = s.motion := by
  unfold dropSilent
  repeat' split
  all_goals simp
@[simp] theorem dropSilent_gas (i : SlotIdx) : (dropSilent i s).gas = s.gas := by
  unfold dropSilent
  repeat' split
  all_goals simp
@[simp] theorem dropSilent_trips (i : SlotIdx) : (dropSilent i s).trips = s.trips := by
  unfold dropSilent
  repeat' split
  all_goals simp
@[simp] theorem dropSilent_store (i : SlotIdx) : (dropSilent i s).store = s.store := by
  unfold dropSilent
  repeat' split
  all_goals simp
@[simp] theorem dropSilent_pending (i : SlotIdx) : (dropSilent i s).pending = s.pending := by
  unfold dropSilent
  repeat' split
  all_goals simp

@[simp] theorem settle_elapsed : (settle  s).elapsed = s.elapsed := by simp [settle]
@[simp] theorem settle_plan : (settle  s).plan = s.plan := by simp [settle]
@[simp] theorem settle_scanner : (settle  s).scanner = s.scanner := by simp [settle]
@[simp] theorem settle_rounds : (settle  s).rounds = s.rounds := by simp [settle]
@[simp] theorem settle_gas : (settle  s).gas = s.gas := by simp [settle]
@[simp] theorem settle_trips : (settle  s).trips = s.trips := by simp [settle]
@[simp] theorem settle_store : (settle  s).store = s.store := by simp [settle]
@[simp] theorem settle_pending : (settle  s).pending = s.pending := by simp [settle]

@[simp] theorem stickValve_elapsed (i : SlotIdx) : (stickValve i s).elapsed = s.elapsed := by
  unfold stickValve
  repeat' split
  all_goals simp
@[simp] theorem stickValve_plan (i : SlotIdx) : (stickValve i s).plan = s.plan := by
  unfold stickValve
  repeat' split
  all_goals simp
@[simp] theorem stickValve_scanner (i : SlotIdx) : (stickValve i s).scanner = s.scanner := by
  unfold stickValve
  repeat' split
  all_goals simp
@[simp] theorem stickValve_rounds (i : SlotIdx) : (stickValve i s).rounds = s.rounds := by
  unfold stickValve
  repeat' split
  all_goals simp
@[simp] theorem stickValve_gas (i : SlotIdx) : (stickValve i s).gas = s.gas := by
  unfold stickValve
  repeat' split
  all_goals simp
@[simp] theorem stickValve_trips (i : SlotIdx) : (stickValve i s).trips = s.trips := by
  unfold stickValve
  repeat' split
  all_goals simp
@[simp] theorem stickValve_store (i : SlotIdx) : (stickValve i s).store = s.store := by
  unfold stickValve
  repeat' split
  all_goals simp
@[simp] theorem stickValve_pending (i : SlotIdx) : (stickValve i s).pending = s.pending := by
  unfold stickValve
  repeat' split
  all_goals simp

/-! Becoming STUCK with the test for issue (R79, R80). -/

/-- A valve that is not STUCK becomes STUCK and its zone is tested for issue. -/
theorem stickAndIssue_of_unstuck (i : SlotIdx) (h : (valveOf s i).isStuck = false) :
    stickAndIssue i s = issueZone (zoneAt s i) (stickValve i s) := by simp [stickAndIssue, h]

/-- A valve already STUCK changes nothing (R80). -/
theorem stickAndIssue_of_stuck (i : SlotIdx) (h : (valveOf s i).isStuck = true) : stickAndIssue i s = s := by
  simp [stickAndIssue, h]

@[simp] theorem stickAndIssue_elapsed (i : SlotIdx) : (stickAndIssue i s).elapsed = s.elapsed := by
  unfold stickAndIssue
  split <;> simp
@[simp] theorem stickAndIssue_plan (i : SlotIdx) : (stickAndIssue i s).plan = s.plan := by
  unfold stickAndIssue
  split <;> simp
@[simp] theorem stickAndIssue_scanner (i : SlotIdx) : (stickAndIssue i s).scanner = s.scanner := by
  unfold stickAndIssue
  split <;> simp
@[simp] theorem stickAndIssue_rounds (i : SlotIdx) : (stickAndIssue i s).rounds = s.rounds := by
  unfold stickAndIssue
  split <;> simp
@[simp] theorem stickAndIssue_gas (i : SlotIdx) : (stickAndIssue i s).gas = s.gas := by
  unfold stickAndIssue
  split <;> simp
@[simp] theorem stickAndIssue_trips (i : SlotIdx) : (stickAndIssue i s).trips = s.trips := by
  unfold stickAndIssue
  split <;> simp
@[simp] theorem stickAndIssue_store (i : SlotIdx) : (stickAndIssue i s).store = s.store := by
  unfold stickAndIssue
  split <;> simp
@[simp] theorem stickAndIssue_pending (i : SlotIdx) : (stickAndIssue i s).pending = s.pending := by
  unfold stickAndIssue
  split <;> simp

theorem foldl_stickValve_elapsed (is : List SlotIdx) :
    (is.foldl (fun t i => stickValve i t) s).elapsed = s.elapsed := by
  induction is generalizing s with
  | nil => rfl
  | cons i is ih => rw [List.foldl_cons, ih, stickValve_elapsed]

theorem foldl_stickValve_plan (is : List SlotIdx) :
    (is.foldl (fun t i => stickValve i t) s).plan = s.plan := by
  induction is generalizing s with
  | nil => rfl
  | cons i is ih => rw [List.foldl_cons, ih, stickValve_plan]

theorem foldl_stickValve_scanner (is : List SlotIdx) :
    (is.foldl (fun t i => stickValve i t) s).scanner = s.scanner := by
  induction is generalizing s with
  | nil => rfl
  | cons i is ih => rw [List.foldl_cons, ih, stickValve_scanner]

theorem foldl_stickValve_rounds (is : List SlotIdx) :
    (is.foldl (fun t i => stickValve i t) s).rounds = s.rounds := by
  induction is generalizing s with
  | nil => rfl
  | cons i is ih => rw [List.foldl_cons, ih, stickValve_rounds]

theorem foldl_stickValve_gas (is : List SlotIdx) :
    (is.foldl (fun t i => stickValve i t) s).gas = s.gas := by
  induction is generalizing s with
  | nil => rfl
  | cons i is ih => rw [List.foldl_cons, ih, stickValve_gas]

theorem foldl_stickValve_trips (is : List SlotIdx) :
    (is.foldl (fun t i => stickValve i t) s).trips = s.trips := by
  induction is generalizing s with
  | nil => rfl
  | cons i is ih => rw [List.foldl_cons, ih, stickValve_trips]

theorem foldl_stickValve_store (is : List SlotIdx) :
    (is.foldl (fun t i => stickValve i t) s).store = s.store := by
  induction is generalizing s with
  | nil => rfl
  | cons i is ih => rw [List.foldl_cons, ih, stickValve_store]

theorem foldl_stickValve_pending (is : List SlotIdx) :
    (is.foldl (fun t i => stickValve i t) s).pending = s.pending := by
  induction is generalizing s with
  | nil => rfl
  | cons i is ih => rw [List.foldl_cons, ih, stickValve_pending]

/-! ## Rounds -/

@[simp] theorem computeRound_elapsed : (computeRound  s).elapsed = s.elapsed := by simp [computeRound]
@[simp] theorem computeRound_plan : (computeRound  s).plan = s.plan := by simp [computeRound]
@[simp] theorem computeRound_scanner : (computeRound  s).scanner = s.scanner := by simp [computeRound]
@[simp] theorem computeRound_gas : (computeRound  s).gas = s.gas := by simp [computeRound]
@[simp] theorem computeRound_trips : (computeRound  s).trips = s.trips := by simp [computeRound]
@[simp] theorem computeRound_proc : (computeRound  s).proc = s.proc := by simp [computeRound]
@[simp] theorem computeRound_store : (computeRound  s).store = s.store := by simp [computeRound]
@[simp] theorem computeRound_pending : (computeRound  s).pending = s.pending := by simp [computeRound]
@[simp] theorem completeAdoption_elapsed : (completeAdoption  s).elapsed = s.elapsed := by
  unfold completeAdoption
  split
  · rfl
  · simp [foldl_stickValve_elapsed]
@[simp] theorem completeAdoption_scanner : (completeAdoption  s).scanner = s.scanner := by
  unfold completeAdoption
  split
  · rfl
  · simp [foldl_stickValve_scanner]
@[simp] theorem completeAdoption_rounds : (completeAdoption  s).rounds = s.rounds := by
  unfold completeAdoption
  split
  · rfl
  · simp [foldl_stickValve_rounds]
@[simp] theorem completeAdoption_gas : (completeAdoption  s).gas = s.gas := by
  unfold completeAdoption
  split
  · rfl
  · simp [foldl_stickValve_gas]
@[simp] theorem completeAdoption_trips : (completeAdoption  s).trips = s.trips := by
  unfold completeAdoption
  split
  · rfl
  · simp [foldl_stickValve_trips]
@[simp] theorem completeAdoption_store : (completeAdoption  s).store = s.store := by
  unfold completeAdoption
  split
  · rfl
  · simp [foldl_stickValve_store]
@[simp] theorem completeAdoption_pending : (completeAdoption  s).pending = s.pending := by
  unfold completeAdoption
  split
  · rfl
  · simp [foldl_stickValve_pending]
@[simp] theorem computeOrMiss_elapsed : (computeOrMiss  s).elapsed = s.elapsed := by
  unfold computeOrMiss
  repeat' split
  all_goals simp
@[simp] theorem computeOrMiss_plan : (computeOrMiss  s).plan = s.plan := by
  unfold computeOrMiss
  repeat' split
  all_goals simp
@[simp] theorem computeOrMiss_scanner : (computeOrMiss  s).scanner = s.scanner := by
  unfold computeOrMiss
  repeat' split
  all_goals simp
@[simp] theorem computeOrMiss_gas : (computeOrMiss  s).gas = s.gas := by
  unfold computeOrMiss
  repeat' split
  all_goals simp
@[simp] theorem computeOrMiss_trips : (computeOrMiss  s).trips = s.trips := by
  unfold computeOrMiss
  repeat' split
  all_goals simp
@[simp] theorem computeOrMiss_proc : (computeOrMiss  s).proc = s.proc := by
  unfold computeOrMiss
  repeat' split
  all_goals simp
@[simp] theorem computeOrMiss_store : (computeOrMiss  s).store = s.store := by
  unfold computeOrMiss
  repeat' split
  all_goals simp
@[simp] theorem computeOrMiss_pending : (computeOrMiss  s).pending = s.pending := by
  unfold computeOrMiss
  repeat' split
  all_goals simp

@[simp] theorem roundEvent_elapsed : (roundEvent  s).elapsed = s.elapsed := by simp [roundEvent]
@[simp] theorem roundEvent_scanner : (roundEvent  s).scanner = s.scanner := by simp [roundEvent]
@[simp] theorem roundEvent_gas : (roundEvent  s).gas = s.gas := by simp [roundEvent]
@[simp] theorem roundEvent_trips : (roundEvent  s).trips = s.trips := by simp [roundEvent]
@[simp] theorem roundEvent_store : (roundEvent  s).store = s.store := by simp [roundEvent]
@[simp] theorem roundEvent_pending : (roundEvent  s).pending = s.pending := by simp [roundEvent]

@[simp] theorem takeRequested_elapsed : (takeRequested s).elapsed = s.elapsed := by
  unfold takeRequested; split <;> simp
@[simp] theorem takeRequested_scanner : (takeRequested s).scanner = s.scanner := by
  unfold takeRequested; split <;> simp
@[simp] theorem takeRequested_gas : (takeRequested s).gas = s.gas := by
  unfold takeRequested; split <;> simp
@[simp] theorem takeRequested_trips : (takeRequested s).trips = s.trips := by
  unfold takeRequested; split <;> simp
@[simp] theorem takeRequested_store : (takeRequested s).store = s.store := by
  unfold takeRequested; split <;> simp
@[simp] theorem takeRequested_pending : (takeRequested s).pending = s.pending := by
  unfold takeRequested; split <;> simp

/-- What every requested round leaves alone, the rounds that come before another event leave alone. -/
theorem iterate_takeRequested {α : Type} (f : State → α) (h : ∀ s, f (takeRequested s) = f s) (n : Nat) (s : State) :
    f (takeRequested^[n] s) = f s := by
  induction n generalizing s with
  | zero => rfl
  | succ n ih => rw [Function.iterate_succ_apply, ih, h]

@[simp] theorem roundsAhead_elapsed : (roundsAhead s).elapsed = s.elapsed :=
  iterate_takeRequested (·.elapsed) (fun s => takeRequested_elapsed s) _ s
@[simp] theorem roundsAhead_scanner : (roundsAhead s).scanner = s.scanner :=
  iterate_takeRequested (·.scanner) (fun s => takeRequested_scanner s) _ s
@[simp] theorem roundsAhead_gas : (roundsAhead s).gas = s.gas :=
  iterate_takeRequested (·.gas) (fun s => takeRequested_gas s) _ s
@[simp] theorem roundsAhead_trips : (roundsAhead s).trips = s.trips :=
  iterate_takeRequested (·.trips) (fun s => takeRequested_trips s) _ s
@[simp] theorem roundsAhead_store : (roundsAhead s).store = s.store :=
  iterate_takeRequested (·.store) (fun s => takeRequested_store s) _ s
@[simp] theorem roundsAhead_pending : (roundsAhead s).pending = s.pending :=
  iterate_takeRequested (·.pending) (fun s => takeRequested_pending s) _ s

@[simp] theorem enterShutIn_elapsed (c : ShutCause) : (enterShutIn c s).elapsed = s.elapsed := by simp [enterShutIn]
@[simp] theorem enterShutIn_plan (c : ShutCause) : (enterShutIn c s).plan = s.plan := by simp [enterShutIn]
@[simp] theorem enterShutIn_scanner (c : ShutCause) : (enterShutIn c s).scanner = s.scanner := by simp [enterShutIn]
@[simp] theorem enterShutIn_gas (c : ShutCause) : (enterShutIn c s).gas = s.gas := by simp [enterShutIn]
@[simp] theorem enterShutIn_trips (c : ShutCause) : (enterShutIn c s).trips = s.trips := by simp [enterShutIn]
@[simp] theorem enterShutIn_proc (c : ShutCause) : (enterShutIn c s).proc = s.proc := by simp [enterShutIn]
@[simp] theorem enterShutIn_store (c : ShutCause) : (enterShutIn c s).store = s.store := by simp [enterShutIn]
@[simp] theorem enterShutIn_pending (c : ShutCause) : (enterShutIn c s).pending = s.pending := by simp [enterShutIn]
@[simp] theorem catchUpRound_elapsed : (catchUpRound  s).elapsed = s.elapsed := by simp [catchUpRound]
@[simp] theorem catchUpRound_scanner : (catchUpRound  s).scanner = s.scanner := by simp [catchUpRound]
@[simp] theorem catchUpRound_gas : (catchUpRound  s).gas = s.gas := by simp [catchUpRound]
@[simp] theorem catchUpRound_trips : (catchUpRound  s).trips = s.trips := by simp [catchUpRound]
@[simp] theorem catchUpRound_store : (catchUpRound  s).store = s.store := by simp [catchUpRound]
@[simp] theorem catchUpRound_pending : (catchUpRound  s).pending = s.pending := by simp [catchUpRound]

@[simp] theorem releaseNow_elapsed : (releaseNow  s).elapsed = s.elapsed := by
  unfold releaseNow
  repeat' split
  all_goals simp
@[simp] theorem releaseNow_scanner : (releaseNow  s).scanner = s.scanner := by
  unfold releaseNow
  repeat' split
  all_goals simp
@[simp] theorem releaseNow_gas : (releaseNow  s).gas = s.gas := by
  unfold releaseNow
  repeat' split
  all_goals simp
@[simp] theorem releaseNow_trips : (releaseNow  s).trips = s.trips := by
  unfold releaseNow
  repeat' split
  all_goals simp
@[simp] theorem releaseNow_store : (releaseNow  s).store = s.store := by
  unfold releaseNow
  repeat' split
  all_goals simp
@[simp] theorem releaseNow_pending : (releaseNow  s).pending = s.pending := by
  unfold releaseNow
  repeat' split
  all_goals simp

@[simp] theorem startPurge_elapsed (i : SlotIdx) (n : Nat) : (startPurge i n s).elapsed = s.elapsed := by simp [startPurge]
@[simp] theorem startPurge_links (i : SlotIdx) (n : Nat) : (startPurge i n s).links = s.links := by simp [startPurge]
@[simp] theorem startPurge_plan (i : SlotIdx) (n : Nat) : (startPurge i n s).plan = s.plan := by simp [startPurge]
@[simp] theorem startPurge_scanner (i : SlotIdx) (n : Nat) : (startPurge i n s).scanner = s.scanner := by simp [startPurge]
@[simp] theorem startPurge_rounds (i : SlotIdx) (n : Nat) : (startPurge i n s).rounds = s.rounds := by simp [startPurge]
@[simp] theorem startPurge_gas (i : SlotIdx) (n : Nat) : (startPurge i n s).gas = s.gas := by simp [startPurge]
@[simp] theorem startPurge_trips (i : SlotIdx) (n : Nat) : (startPurge i n s).trips = s.trips := by simp [startPurge]
@[simp] theorem startPurge_store (i : SlotIdx) (n : Nat) : (startPurge i n s).store = s.store := by simp [startPurge]
@[simp] theorem startPurge_pending (i : SlotIdx) (n : Nat) : (startPurge i n s).pending = s.pending := by simp [startPurge]

@[simp] theorem completeTest_elapsed : (completeTest  s).elapsed = s.elapsed := by simp [completeTest]
@[simp] theorem completeTest_plan : (completeTest  s).plan = s.plan := by simp [completeTest]
@[simp] theorem completeTest_scanner : (completeTest  s).scanner = s.scanner := by simp [completeTest]
@[simp] theorem completeTest_rounds : (completeTest  s).rounds = s.rounds := by simp [completeTest]
@[simp] theorem completeTest_motion : (completeTest  s).motion = s.motion := by simp [completeTest]
@[simp] theorem completeTest_gas : (completeTest  s).gas = s.gas := by simp [completeTest]
@[simp] theorem completeTest_trips : (completeTest  s).trips = s.trips := by simp [completeTest]
@[simp] theorem completeTest_store : (completeTest  s).store = s.store := by simp [completeTest]
@[simp] theorem completeTest_pending : (completeTest  s).pending = s.pending := by simp [completeTest]

@[simp] theorem endPurge_elapsed : (endPurge  s).elapsed = s.elapsed := by simp [endPurge]
@[simp] theorem endPurge_plan : (endPurge  s).plan = s.plan := by simp [endPurge]
@[simp] theorem endPurge_scanner : (endPurge  s).scanner = s.scanner := by simp [endPurge]
@[simp] theorem endPurge_rounds : (endPurge  s).rounds = s.rounds := by simp [endPurge]
@[simp] theorem endPurge_motion : (endPurge  s).motion = s.motion := by simp [endPurge]
@[simp] theorem endPurge_gas : (endPurge  s).gas = s.gas := by simp [endPurge]
@[simp] theorem endPurge_trips : (endPurge  s).trips = s.trips := by simp [endPurge]
@[simp] theorem endPurge_store : (endPurge  s).store = s.store := by simp [endPurge]
@[simp] theorem endPurge_pending : (endPurge  s).pending = s.pending := by simp [endPurge]

/-! ## Gas, trips and windows -/

@[simp] theorem raiseAlarm_elapsed (c : AlarmCause) : (raiseAlarm c s).elapsed = s.elapsed := by simp [raiseAlarm]
@[simp] theorem raiseAlarm_plan (c : AlarmCause) : (raiseAlarm c s).plan = s.plan := by simp [raiseAlarm]
@[simp] theorem raiseAlarm_scanner (c : AlarmCause) : (raiseAlarm c s).scanner = s.scanner := by simp [raiseAlarm]
@[simp] theorem raiseAlarm_motion (c : AlarmCause) : (raiseAlarm c s).motion = s.motion := by simp [raiseAlarm]
@[simp] theorem raiseAlarm_trips (c : AlarmCause) : (raiseAlarm c s).trips = s.trips := by simp [raiseAlarm]
@[simp] theorem raiseAlarm_proc (c : AlarmCause) : (raiseAlarm c s).proc = s.proc := by simp [raiseAlarm]
@[simp] theorem raiseAlarm_store (c : AlarmCause) : (raiseAlarm c s).store = s.store := by simp [raiseAlarm]
@[simp] theorem raiseAlarm_pending (c : AlarmCause) : (raiseAlarm c s).pending = s.pending := by simp [raiseAlarm]

@[simp] theorem clearAlarm_elapsed : (clearAlarm  s).elapsed = s.elapsed := by simp [clearAlarm]
@[simp] theorem clearAlarm_plan : (clearAlarm  s).plan = s.plan := by simp [clearAlarm]
@[simp] theorem clearAlarm_scanner : (clearAlarm  s).scanner = s.scanner := by simp [clearAlarm]
@[simp] theorem clearAlarm_rounds : (clearAlarm  s).rounds = s.rounds := by simp [clearAlarm]
@[simp] theorem clearAlarm_motion : (clearAlarm  s).motion = s.motion := by simp [clearAlarm]
@[simp] theorem clearAlarm_trips : (clearAlarm  s).trips = s.trips := by simp [clearAlarm]
@[simp] theorem clearAlarm_proc : (clearAlarm  s).proc = s.proc := by simp [clearAlarm]
@[simp] theorem clearAlarm_store : (clearAlarm  s).store = s.store := by simp [clearAlarm]
@[simp] theorem clearAlarm_pending : (clearAlarm  s).pending = s.pending := by simp [clearAlarm]

@[simp] theorem alarmTakes_elapsed (out : Bool) : (alarmTakes out s).elapsed = s.elapsed := by
  unfold alarmTakes
  repeat' split
  all_goals simp
@[simp] theorem alarmTakes_plan (out : Bool) : (alarmTakes out s).plan = s.plan := by
  unfold alarmTakes
  repeat' split
  all_goals simp
@[simp] theorem alarmTakes_scanner (out : Bool) : (alarmTakes out s).scanner = s.scanner := by
  unfold alarmTakes
  repeat' split
  all_goals simp
@[simp] theorem alarmTakes_motion (out : Bool) : (alarmTakes out s).motion = s.motion := by
  unfold alarmTakes
  repeat' split
  all_goals simp
@[simp] theorem alarmTakes_trips (out : Bool) : (alarmTakes out s).trips = s.trips := by
  unfold alarmTakes
  repeat' split
  all_goals simp
@[simp] theorem alarmTakes_proc (out : Bool) : (alarmTakes out s).proc = s.proc := by
  unfold alarmTakes
  repeat' split
  all_goals simp
@[simp] theorem alarmTakes_store (out : Bool) : (alarmTakes out s).store = s.store := by
  unfold alarmTakes
  repeat' split
  all_goals simp
@[simp] theorem alarmTakes_pending (out : Bool) : (alarmTakes out s).pending = s.pending := by
  unfold alarmTakes
  repeat' split
  all_goals simp

@[simp] theorem watchTakes_elapsed (d : Delivery) : (watchTakes d s).elapsed = s.elapsed := by
  unfold watchTakes
  repeat' split
  all_goals simp
@[simp] theorem watchTakes_links (d : Delivery) : (watchTakes d s).links = s.links := by
  unfold watchTakes
  repeat' split
  all_goals simp
@[simp] theorem watchTakes_plan (d : Delivery) : (watchTakes d s).plan = s.plan := by
  unfold watchTakes
  repeat' split
  all_goals simp
@[simp] theorem watchTakes_scanner (d : Delivery) : (watchTakes d s).scanner = s.scanner := by
  unfold watchTakes
  repeat' split
  all_goals simp
@[simp] theorem watchTakes_rounds (d : Delivery) : (watchTakes d s).rounds = s.rounds := by
  unfold watchTakes
  repeat' split
  all_goals simp
@[simp] theorem watchTakes_motion (d : Delivery) : (watchTakes d s).motion = s.motion := by
  unfold watchTakes
  repeat' split
  all_goals simp
@[simp] theorem watchTakes_trips (d : Delivery) : (watchTakes d s).trips = s.trips := by
  unfold watchTakes
  repeat' split
  all_goals simp
@[simp] theorem watchTakes_proc (d : Delivery) : (watchTakes d s).proc = s.proc := by
  unfold watchTakes
  repeat' split
  all_goals simp
@[simp] theorem watchTakes_store (d : Delivery) : (watchTakes d s).store = s.store := by
  unfold watchTakes
  repeat' split
  all_goals simp
@[simp] theorem watchTakes_pending (d : Delivery) : (watchTakes d s).pending = s.pending := by
  unfold watchTakes
  repeat' split
  all_goals simp

@[simp] theorem bandTakes_elapsed (d : Delivery) : (bandTakes d s).elapsed = s.elapsed := by
  unfold bandTakes
  repeat' split
  all_goals simp
@[simp] theorem bandTakes_links (d : Delivery) : (bandTakes d s).links = s.links := by
  unfold bandTakes
  repeat' split
  all_goals simp
@[simp] theorem bandTakes_plan (d : Delivery) : (bandTakes d s).plan = s.plan := by
  unfold bandTakes
  repeat' split
  all_goals simp
@[simp] theorem bandTakes_scanner (d : Delivery) : (bandTakes d s).scanner = s.scanner := by
  unfold bandTakes
  repeat' split
  all_goals simp
@[simp] theorem bandTakes_motion (d : Delivery) : (bandTakes d s).motion = s.motion := by
  unfold bandTakes
  repeat' split
  all_goals simp
@[simp] theorem bandTakes_trips (d : Delivery) : (bandTakes d s).trips = s.trips := by
  unfold bandTakes
  repeat' split
  all_goals simp
@[simp] theorem bandTakes_proc (d : Delivery) : (bandTakes d s).proc = s.proc := by
  unfold bandTakes
  repeat' split
  all_goals simp
@[simp] theorem bandTakes_store (d : Delivery) : (bandTakes d s).store = s.store := by
  unfold bandTakes
  repeat' split
  all_goals simp
@[simp] theorem bandTakes_pending (d : Delivery) : (bandTakes d s).pending = s.pending := by
  unfold bandTakes
  repeat' split
  all_goals simp

@[simp] theorem deliver_elapsed (d : Delivery) : (deliver d s).elapsed = s.elapsed := by simp [deliver]
@[simp] theorem deliver_plan (d : Delivery) : (deliver d s).plan = s.plan := by simp [deliver]
@[simp] theorem deliver_scanner (d : Delivery) : (deliver d s).scanner = s.scanner := by simp [deliver]
@[simp] theorem deliver_motion (d : Delivery) : (deliver d s).motion = s.motion := by simp [deliver]
@[simp] theorem deliver_trips (d : Delivery) : (deliver d s).trips = s.trips := by simp [deliver]
@[simp] theorem deliver_proc (d : Delivery) : (deliver d s).proc = s.proc := by simp [deliver]
@[simp] theorem deliver_store (d : Delivery) : (deliver d s).store = s.store := by simp [deliver]
@[simp] theorem deliver_pending (d : Delivery) : (deliver d s).pending = s.pending := by simp [deliver]

@[simp] theorem keyRelease_elapsed : (keyRelease  s).elapsed = s.elapsed := by simp [keyRelease]
@[simp] theorem keyRelease_links : (keyRelease  s).links = s.links := by simp [keyRelease]
@[simp] theorem keyRelease_scanner : (keyRelease  s).scanner = s.scanner := by simp [keyRelease]
@[simp] theorem keyRelease_rounds : (keyRelease  s).rounds = s.rounds := by simp [keyRelease]
@[simp] theorem keyRelease_gas : (keyRelease  s).gas = s.gas := by simp [keyRelease]
@[simp] theorem keyRelease_trips : (keyRelease  s).trips = s.trips := by simp [keyRelease]
@[simp] theorem keyRelease_proc : (keyRelease  s).proc = s.proc := by simp [keyRelease]
@[simp] theorem keyRelease_store : (keyRelease  s).store = s.store := by simp [keyRelease]
@[simp] theorem keyRelease_pending : (keyRelease  s).pending = s.pending := by simp [keyRelease]
@[simp] theorem latchLine_elapsed (j : LineIdx) : (latchLine j s).elapsed = s.elapsed := by simp [latchLine]
@[simp] theorem latchLine_plan (j : LineIdx) : (latchLine j s).plan = s.plan := by simp [latchLine]
@[simp] theorem latchLine_scanner (j : LineIdx) : (latchLine j s).scanner = s.scanner := by simp [latchLine]
@[simp] theorem latchLine_rounds (j : LineIdx) : (latchLine j s).rounds = s.rounds := by simp [latchLine]
@[simp] theorem latchLine_gas (j : LineIdx) : (latchLine j s).gas = s.gas := by simp [latchLine]
@[simp] theorem latchLine_proc (j : LineIdx) : (latchLine j s).proc = s.proc := by simp [latchLine]
@[simp] theorem latchLine_store (j : LineIdx) : (latchLine j s).store = s.store := by simp [latchLine]
@[simp] theorem latchLine_pending (j : LineIdx) : (latchLine j s).pending = s.pending := by simp [latchLine]

@[simp] theorem completeRollover_elapsed (opened ended : Bool) : (completeRollover opened ended s).elapsed = s.elapsed := by
  unfold completeRollover
  repeat' split
  all_goals simp
@[simp] theorem completeRollover_plan (opened ended : Bool) : (completeRollover opened ended s).plan = s.plan := by
  unfold completeRollover
  repeat' split
  all_goals simp
@[simp] theorem completeRollover_scanner (opened ended : Bool) : (completeRollover opened ended s).scanner = s.scanner := by
  unfold completeRollover
  repeat' split
  all_goals simp
@[simp] theorem completeRollover_motion (opened ended : Bool) : (completeRollover opened ended s).motion = s.motion := by
  unfold completeRollover
  repeat' split
  all_goals simp
@[simp] theorem completeRollover_gas (opened ended : Bool) : (completeRollover opened ended s).gas = s.gas := by
  unfold completeRollover
  repeat' split
  all_goals simp
@[simp] theorem completeRollover_proc (opened ended : Bool) : (completeRollover opened ended s).proc = s.proc := by
  unfold completeRollover
  repeat' split
  all_goals simp
@[simp] theorem completeRollover_store (opened ended : Bool) : (completeRollover opened ended s).store = s.store := by
  unfold completeRollover
  repeat' split
  all_goals simp
@[simp] theorem completeRollover_pending (opened ended : Bool) : (completeRollover opened ended s).pending = s.pending := by
  unfold completeRollover
  repeat' split
  all_goals simp

@[simp] theorem rollWindows_elapsed (c : Clock) : (rollWindows c s).elapsed = s.elapsed := by simp [rollWindows]
@[simp] theorem rollWindows_plan (c : Clock) : (rollWindows c s).plan = s.plan := by simp [rollWindows]
@[simp] theorem rollWindows_scanner (c : Clock) : (rollWindows c s).scanner = s.scanner := by simp [rollWindows]
@[simp] theorem rollWindows_motion (c : Clock) : (rollWindows c s).motion = s.motion := by simp [rollWindows]
@[simp] theorem rollWindows_gas (c : Clock) : (rollWindows c s).gas = s.gas := by simp [rollWindows]
@[simp] theorem rollWindows_proc (c : Clock) : (rollWindows c s).proc = s.proc := by simp [rollWindows]
@[simp] theorem rollWindows_store (c : Clock) : (rollWindows c s).store = s.store := by simp [rollWindows]
@[simp] theorem rollWindows_pending (c : Clock) : (rollWindows c s).pending = s.pending := by simp [rollWindows]

@[simp] theorem windowEdited_elapsed (b : Bool) : (windowEdited b s).elapsed = s.elapsed := by
  unfold windowEdited
  repeat' split
  all_goals simp
@[simp] theorem windowEdited_plan (b : Bool) : (windowEdited b s).plan = s.plan := by
  unfold windowEdited
  repeat' split
  all_goals simp
@[simp] theorem windowEdited_scanner (b : Bool) : (windowEdited b s).scanner = s.scanner := by
  unfold windowEdited
  repeat' split
  all_goals simp
@[simp] theorem windowEdited_rounds (b : Bool) : (windowEdited b s).rounds = s.rounds := by
  unfold windowEdited
  repeat' split
  all_goals simp
@[simp] theorem windowEdited_motion (b : Bool) : (windowEdited b s).motion = s.motion := by
  unfold windowEdited
  repeat' split
  all_goals simp
@[simp] theorem windowEdited_gas (b : Bool) : (windowEdited b s).gas = s.gas := by
  unfold windowEdited
  repeat' split
  all_goals simp
@[simp] theorem windowEdited_proc (b : Bool) : (windowEdited b s).proc = s.proc := by
  unfold windowEdited
  repeat' split
  all_goals simp
@[simp] theorem windowEdited_store (b : Bool) : (windowEdited b s).store = s.store := by
  unfold windowEdited
  repeat' split
  all_goals simp
@[simp] theorem windowEdited_pending (b : Bool) : (windowEdited b s).pending = s.pending := by
  unfold windowEdited
  repeat' split
  all_goals simp

/-! ## The field line -/

@[simp] theorem startCycle_elapsed : (startCycle  s).elapsed = s.elapsed := by simp [startCycle]
@[simp] theorem startCycle_links : (startCycle  s).links = s.links := by simp [startCycle]
@[simp] theorem startCycle_plan : (startCycle  s).plan = s.plan := by simp [startCycle]
@[simp] theorem startCycle_rounds : (startCycle  s).rounds = s.rounds := by simp [startCycle]
@[simp] theorem startCycle_motion : (startCycle  s).motion = s.motion := by simp [startCycle]
@[simp] theorem startCycle_gas : (startCycle  s).gas = s.gas := by simp [startCycle]
@[simp] theorem startCycle_trips : (startCycle  s).trips = s.trips := by simp [startCycle]
@[simp] theorem startCycle_proc : (startCycle  s).proc = s.proc := by simp [startCycle]
@[simp] theorem startCycle_store : (startCycle  s).store = s.store := by simp [startCycle]
@[simp] theorem startCycle_pending : (startCycle  s).pending = s.pending := by simp [startCycle]
@[simp] theorem nextPoll_elapsed (hs : List HeadAddr) : (nextPoll hs s).elapsed = s.elapsed := by
  induction hs with
  | nil => simp [nextPoll]
  | cons h hs ih =>
    cases h
    · simp [nextPoll]
    · unfold nextPoll
      split
      · rfl
      · exact ih
@[simp] theorem nextPoll_links (hs : List HeadAddr) : (nextPoll hs s).links = s.links := by
  induction hs with
  | nil => simp [nextPoll]
  | cons h hs ih =>
    cases h
    · simp [nextPoll]
    · unfold nextPoll
      split
      · rfl
      · exact ih
@[simp] theorem nextPoll_plan (hs : List HeadAddr) : (nextPoll hs s).plan = s.plan := by
  induction hs with
  | nil => simp [nextPoll]
  | cons h hs ih =>
    cases h
    · simp [nextPoll]
    · unfold nextPoll
      split
      · rfl
      · exact ih
@[simp] theorem nextPoll_rounds (hs : List HeadAddr) : (nextPoll hs s).rounds = s.rounds := by
  induction hs with
  | nil => simp [nextPoll]
  | cons h hs ih =>
    cases h
    · simp [nextPoll]
    · unfold nextPoll
      split
      · rfl
      · exact ih
@[simp] theorem nextPoll_motion (hs : List HeadAddr) : (nextPoll hs s).motion = s.motion := by
  induction hs with
  | nil => simp [nextPoll]
  | cons h hs ih =>
    cases h
    · simp [nextPoll]
    · unfold nextPoll
      split
      · rfl
      · exact ih
@[simp] theorem nextPoll_gas (hs : List HeadAddr) : (nextPoll hs s).gas = s.gas := by
  induction hs with
  | nil => simp [nextPoll]
  | cons h hs ih =>
    cases h
    · simp [nextPoll]
    · unfold nextPoll
      split
      · rfl
      · exact ih
@[simp] theorem nextPoll_trips (hs : List HeadAddr) : (nextPoll hs s).trips = s.trips := by
  induction hs with
  | nil => simp [nextPoll]
  | cons h hs ih =>
    cases h
    · simp [nextPoll]
    · unfold nextPoll
      split
      · rfl
      · exact ih
@[simp] theorem nextPoll_proc (hs : List HeadAddr) : (nextPoll hs s).proc = s.proc := by
  induction hs with
  | nil => simp [nextPoll]
  | cons h hs ih =>
    cases h
    · simp [nextPoll]
    · unfold nextPoll
      split
      · rfl
      · exact ih
@[simp] theorem nextPoll_store (hs : List HeadAddr) : (nextPoll hs s).store = s.store := by
  induction hs with
  | nil => simp [nextPoll]
  | cons h hs ih =>
    cases h
    · simp [nextPoll]
    · unfold nextPoll
      split
      · rfl
      · exact ih
@[simp] theorem nextPoll_pending (hs : List HeadAddr) : (nextPoll hs s).pending = s.pending := by
  induction hs with
  | nil => simp [nextPoll]
  | cons h hs ih =>
    cases h
    · simp [nextPoll]
    · unfold nextPoll
      split
      · rfl
      · exact ih
@[simp] theorem sendNext_elapsed : (sendNext  s).elapsed = s.elapsed := by simp [sendNext]
@[simp] theorem sendNext_links : (sendNext  s).links = s.links := by simp [sendNext]
@[simp] theorem sendNext_plan : (sendNext  s).plan = s.plan := by simp [sendNext]
@[simp] theorem sendNext_rounds : (sendNext  s).rounds = s.rounds := by simp [sendNext]
@[simp] theorem sendNext_motion : (sendNext  s).motion = s.motion := by simp [sendNext]
@[simp] theorem sendNext_gas : (sendNext  s).gas = s.gas := by simp [sendNext]
@[simp] theorem sendNext_trips : (sendNext  s).trips = s.trips := by simp [sendNext]
@[simp] theorem sendNext_proc : (sendNext  s).proc = s.proc := by simp [sendNext]
@[simp] theorem sendNext_store : (sendNext  s).store = s.store := by simp [sendNext]
@[simp] theorem sendNext_pending : (sendNext  s).pending = s.pending := by simp [sendNext]

@[simp] theorem retireDone_elapsed (i : SlotIdx) : (retireDone i s).elapsed = s.elapsed := by simp [retireDone]
@[simp] theorem retireDone_links (i : SlotIdx) : (retireDone i s).links = s.links := by simp [retireDone]
@[simp] theorem retireDone_rounds (i : SlotIdx) : (retireDone i s).rounds = s.rounds := by simp [retireDone]
@[simp] theorem retireDone_gas (i : SlotIdx) : (retireDone i s).gas = s.gas := by simp [retireDone]
@[simp] theorem retireDone_trips (i : SlotIdx) : (retireDone i s).trips = s.trips := by simp [retireDone]
@[simp] theorem retireDone_proc (i : SlotIdx) : (retireDone i s).proc = s.proc := by simp [retireDone]
@[simp] theorem retireDone_store (i : SlotIdx) : (retireDone i s).store = s.store := by simp [retireDone]
@[simp] theorem retireDone_pending (i : SlotIdx) : (retireDone i s).pending = s.pending := by simp [retireDone]

@[simp] theorem takePosition_elapsed (i : SlotIdx) (p : Nat) : (takePosition i p s).elapsed = s.elapsed := by
  simp only [takePosition]
  split <;> simp
@[simp] theorem takePosition_links (i : SlotIdx) (p : Nat) : (takePosition i p s).links = s.links := by
  simp only [takePosition]
  split <;> simp
@[simp] theorem takePosition_plan (i : SlotIdx) (p : Nat) : (takePosition i p s).plan = s.plan := by
  simp only [takePosition]
  split <;> simp
@[simp] theorem takePosition_scanner (i : SlotIdx) (p : Nat) : (takePosition i p s).scanner = s.scanner := by
  simp only [takePosition]
  split <;> simp
@[simp] theorem takePosition_rounds (i : SlotIdx) (p : Nat) : (takePosition i p s).rounds = s.rounds := by
  simp only [takePosition]
  split <;> simp
@[simp] theorem takePosition_gas (i : SlotIdx) (p : Nat) : (takePosition i p s).gas = s.gas := by
  simp only [takePosition]
  split <;> simp
@[simp] theorem takePosition_trips (i : SlotIdx) (p : Nat) : (takePosition i p s).trips = s.trips := by
  simp only [takePosition]
  split <;> simp
@[simp] theorem takePosition_proc (i : SlotIdx) (p : Nat) : (takePosition i p s).proc = s.proc := by
  simp only [takePosition]
  split <;> simp
@[simp] theorem takePosition_store (i : SlotIdx) (p : Nat) : (takePosition i p s).store = s.store := by
  simp only [takePosition]
  split <;> simp
@[simp] theorem takePosition_pending (i : SlotIdx) (p : Nat) : (takePosition i p s).pending = s.pending := by
  simp only [takePosition]
  split <;> simp

@[simp] theorem reportPosition_elapsed (i : SlotIdx) (p : Nat) (fault : Bool) : (reportPosition i p fault s).elapsed = s.elapsed := by
  simp only [reportPosition]
  repeat' split
  all_goals simp
@[simp] theorem reportPosition_rounds (i : SlotIdx) (p : Nat) (fault : Bool) : (reportPosition i p fault s).rounds = s.rounds := by
  simp only [reportPosition]
  repeat' split
  all_goals simp
@[simp] theorem reportPosition_gas (i : SlotIdx) (p : Nat) (fault : Bool) : (reportPosition i p fault s).gas = s.gas := by
  simp only [reportPosition]
  repeat' split
  all_goals simp
@[simp] theorem reportPosition_trips (i : SlotIdx) (p : Nat) (fault : Bool) : (reportPosition i p fault s).trips = s.trips := by
  simp only [reportPosition]
  repeat' split
  all_goals simp
@[simp] theorem reportPosition_store (i : SlotIdx) (p : Nat) (fault : Bool) : (reportPosition i p fault s).store = s.store := by
  simp only [reportPosition]
  repeat' split
  all_goals simp
@[simp] theorem reportPosition_pending (i : SlotIdx) (p : Nat) (fault : Bool) : (reportPosition i p fault s).pending = s.pending := by
  simp only [reportPosition]
  repeat' split
  all_goals simp

@[simp] theorem takeSlotReply_elapsed (i : SlotIdx) (r : HeadReply) : (takeSlotReply i r s).elapsed = s.elapsed := by
  simp only [takeSlotReply]
  split
  all_goals simp
@[simp] theorem takeSlotReply_rounds (i : SlotIdx) (r : HeadReply) : (takeSlotReply i r s).rounds = s.rounds := by
  simp only [takeSlotReply]
  split
  all_goals simp
@[simp] theorem takeSlotReply_gas (i : SlotIdx) (r : HeadReply) : (takeSlotReply i r s).gas = s.gas := by
  simp only [takeSlotReply]
  split
  all_goals simp
@[simp] theorem takeSlotReply_trips (i : SlotIdx) (r : HeadReply) : (takeSlotReply i r s).trips = s.trips := by
  simp only [takeSlotReply]
  split
  all_goals simp
@[simp] theorem takeSlotReply_store (i : SlotIdx) (r : HeadReply) : (takeSlotReply i r s).store = s.store := by
  simp only [takeSlotReply]
  split
  all_goals simp
@[simp] theorem takeSlotReply_pending (i : SlotIdx) (r : HeadReply) : (takeSlotReply i r s).pending = s.pending := by
  simp only [takeSlotReply]
  split
  all_goals simp

@[simp] theorem takeManifoldReply_elapsed (r : HeadReply) : (takeManifoldReply r s).elapsed = s.elapsed := by simp [takeManifoldReply]
@[simp] theorem takeManifoldReply_plan (r : HeadReply) : (takeManifoldReply r s).plan = s.plan := by simp [takeManifoldReply]
@[simp] theorem takeManifoldReply_motion (r : HeadReply) : (takeManifoldReply r s).motion = s.motion := by simp [takeManifoldReply]
@[simp] theorem takeManifoldReply_trips (r : HeadReply) : (takeManifoldReply r s).trips = s.trips := by simp [takeManifoldReply]
@[simp] theorem takeManifoldReply_proc (r : HeadReply) : (takeManifoldReply r s).proc = s.proc := by simp [takeManifoldReply]
@[simp] theorem takeManifoldReply_store (r : HeadReply) : (takeManifoldReply r s).store = s.store := by simp [takeManifoldReply]
@[simp] theorem takeManifoldReply_pending (r : HeadReply) : (takeManifoldReply r s).pending = s.pending := by simp [takeManifoldReply]

@[simp] theorem takeReply_elapsed (h : HeadAddr) (r : HeadReply) : (takeReply h r s).elapsed = s.elapsed := by
  unfold takeReply
  repeat' split
  all_goals simp
@[simp] theorem takeReply_trips (h : HeadAddr) (r : HeadReply) : (takeReply h r s).trips = s.trips := by
  unfold takeReply
  repeat' split
  all_goals simp
@[simp] theorem takeReply_store (h : HeadAddr) (r : HeadReply) : (takeReply h r s).store = s.store := by
  unfold takeReply
  repeat' split
  all_goals simp
@[simp] theorem takeReply_pending (h : HeadAddr) (r : HeadReply) : (takeReply h r s).pending = s.pending := by
  unfold takeReply
  repeat' split
  all_goals simp

@[simp] theorem missReply_elapsed (h : HeadAddr) : (missReply h s).elapsed = s.elapsed := by
  simp only [missReply]
  repeat' split
  all_goals simp
@[simp] theorem missReply_plan (h : HeadAddr) : (missReply h s).plan = s.plan := by
  simp only [missReply]
  repeat' split
  all_goals simp
@[simp] theorem missReply_rounds (h : HeadAddr) : (missReply h s).rounds = s.rounds := by
  simp only [missReply]
  repeat' split
  all_goals simp
@[simp] theorem missReply_motion (h : HeadAddr) : (missReply h s).motion = s.motion := by
  simp only [missReply]
  repeat' split
  all_goals simp
@[simp] theorem missReply_gas (h : HeadAddr) : (missReply h s).gas = s.gas := by
  simp only [missReply]
  repeat' split
  all_goals simp
@[simp] theorem missReply_trips (h : HeadAddr) : (missReply h s).trips = s.trips := by
  simp only [missReply]
  repeat' split
  all_goals simp
@[simp] theorem missReply_store (h : HeadAddr) : (missReply h s).store = s.store := by
  simp only [missReply]
  repeat' split
  all_goals simp
@[simp] theorem missReply_pending (h : HeadAddr) : (missReply h s).pending = s.pending := by
  simp only [missReply]
  repeat' split
  all_goals simp

@[simp] theorem fieldFrame_elapsed (bs : List Byte) : (fieldFrame bs s).elapsed = s.elapsed := by
  unfold fieldFrame
  repeat' split
  all_goals simp
@[simp] theorem fieldFrame_trips (bs : List Byte) : (fieldFrame bs s).trips = s.trips := by
  unfold fieldFrame
  repeat' split
  all_goals simp
@[simp] theorem fieldFrame_store (bs : List Byte) : (fieldFrame bs s).store = s.store := by
  unfold fieldFrame
  repeat' split
  all_goals simp
@[simp] theorem fieldFrame_pending (bs : List Byte) : (fieldFrame bs s).pending = s.pending := by
  unfold fieldFrame
  repeat' split
  all_goals simp

@[simp] theorem pollMissed_elapsed : (pollMissed  s).elapsed = s.elapsed := by
  unfold pollMissed
  repeat' split
  all_goals simp
@[simp] theorem pollMissed_plan : (pollMissed  s).plan = s.plan := by
  unfold pollMissed
  repeat' split
  all_goals simp
@[simp] theorem pollMissed_rounds : (pollMissed  s).rounds = s.rounds := by
  unfold pollMissed
  repeat' split
  all_goals simp
@[simp] theorem pollMissed_motion : (pollMissed  s).motion = s.motion := by
  unfold pollMissed
  repeat' split
  all_goals simp
@[simp] theorem pollMissed_gas : (pollMissed  s).gas = s.gas := by
  unfold pollMissed
  repeat' split
  all_goals simp
@[simp] theorem pollMissed_trips : (pollMissed  s).trips = s.trips := by
  unfold pollMissed
  repeat' split
  all_goals simp
@[simp] theorem pollMissed_store : (pollMissed  s).store = s.store := by
  unfold pollMissed
  repeat' split
  all_goals simp
@[simp] theorem pollMissed_pending : (pollMissed  s).pending = s.pending := by
  unfold pollMissed
  repeat' split
  all_goals simp

/-! ## The store -/

@[simp] theorem endWrite_elapsed (crc : Word32) (bs : List Byte) : (endWrite crc bs s).elapsed = s.elapsed := by simp [endWrite]
@[simp] theorem endWrite_plan (crc : Word32) (bs : List Byte) : (endWrite crc bs s).plan = s.plan := by simp [endWrite]
@[simp] theorem endWrite_scanner (crc : Word32) (bs : List Byte) : (endWrite crc bs s).scanner = s.scanner := by simp [endWrite]
@[simp] theorem endWrite_rounds (crc : Word32) (bs : List Byte) : (endWrite crc bs s).rounds = s.rounds := by simp [endWrite]
@[simp] theorem endWrite_motion (crc : Word32) (bs : List Byte) : (endWrite crc bs s).motion = s.motion := by simp [endWrite]
@[simp] theorem endWrite_gas (crc : Word32) (bs : List Byte) : (endWrite crc bs s).gas = s.gas := by simp [endWrite]
@[simp] theorem endWrite_trips (crc : Word32) (bs : List Byte) : (endWrite crc bs s).trips = s.trips := by simp [endWrite]
@[simp] theorem endWrite_proc (crc : Word32) (bs : List Byte) : (endWrite crc bs s).proc = s.proc := by simp [endWrite]
@[simp] theorem endWrite_pending (crc : Word32) (bs : List Byte) : (endWrite crc bs s).pending = s.pending := by simp [endWrite]

end Sys2Proof.Machine
end

