-- ==== Sys2Proof/Laws/Links.lean ====
section
/-! SUPPORT. What an operation of a block does to the links: it raises notices and nothing else. Each shared
operation that raises has its lemma here, and a request's answer is said once for every command. -/

namespace Sys2Proof.Machine

/-! ## Raising -/

/-- A link differs from what it was at most by flags raised on it: its traffic and its mask stand, its set
has only grown, the spare excepted, and a line that followed the set still follows it (R157, R159). -/
structure NoticesGrow (j k : LinkState) : Prop where
  receiver : k.receiver = j.receiver
  request : k.request = j.request
  sent : k.sent = j.sent
  mask : k.mask = j.mask
  grows : ∀ n : Nat, j.notices.getLsbD n = true → k.notices.getLsbD n = true
  spare : j.notices.getLsbD 15 = false → k.notices.getLsbD 15 = false
  line : j.attention = ((j.notices &&& j.mask) != 0#16) → k.attention = ((k.notices &&& k.mask) != 0#16)

/-- The links of a state differ from another's at most by flags raised. -/
def RaisesOnly (s t : State) : Prop := ∀ l : Link, NoticesGrow (s.links.get l) (t.links.get l)

theorem NoticesGrow.refl (k : LinkState) : NoticesGrow k k :=
  ⟨rfl, rfl, rfl, rfl, fun _ h => h, id, id⟩

theorem NoticesGrow.trans {j k m : LinkState} (h : NoticesGrow j k) (g : NoticesGrow k m) : NoticesGrow j m :=
  ⟨g.receiver.trans h.receiver, g.request.trans h.request, g.sent.trans h.sent, g.mask.trans h.mask,
    fun n x => g.grows n (h.grows n x), fun x => g.spare (h.spare x), fun x => g.line (h.line x)⟩

theorem Notice.number_le (f : Notice) : f.number ≤ 14 := by cases f <;> decide

theorem Notice.bit_getLsbD (f : Notice) {n : Nat} (h : n < 16) : f.bit.getLsbD n = (n == f.number) := by
  have : ∀ n : Fin 16, f.bit.getLsbD n.val = (n.val == f.number) := by cases f <;> decide
  exact this ⟨n, h⟩

theorem NoticesGrow.notify (f : Notice) (k : LinkState) : NoticesGrow k (LinkState.notify f k) := by
  refine ⟨rfl, rfl, rfl, rfl, fun n h => ?_, fun h => ?_, fun _ => rfl⟩
  · show (k.notices ||| f.bit).getLsbD n = true
    simp [h]
  · show (k.notices ||| f.bit).getLsbD 15 = false
    have := f.number_le
    rw [BitVec.getLsbD_or, h, f.bit_getLsbD (n := 15) (by decide)]
    simp only [Bool.false_or, beq_eq_false_iff_ne]
    omega

theorem RaisesOnly.refl (s : State) : RaisesOnly s s := fun _ => .refl _

theorem RaisesOnly.trans {s t u : State} (h : RaisesOnly s t) (g : RaisesOnly t u) : RaisesOnly s u :=
  fun l => (h l).trans (g l)

/-- An operation that leaves the links raises nothing. -/
theorem RaisesOnly.of_eq {s t : State} (h : t.links = s.links) : RaisesOnly s t := fun l => by
  rw [h]; exact .refl _

/-- An operation that raises only, taken after one that leaves the links. -/
theorem RaisesOnly.after {s t u : State} (g : RaisesOnly t u) (h : t.links = s.links) : RaisesOnly s u :=
  (RaisesOnly.of_eq h).trans g

theorem RaisesOnly.raise (f : Notice) (s : State) : RaisesOnly s (raise f s) := fun l => by
  simp only [Machine.raise, Links.get_map]
  exact .notify f _

/-- A notice raised after an operation that raises only. -/
theorem RaisesOnly.then_raise {s t : State} (f : Notice) (h : RaisesOnly s t) : RaisesOnly s (Machine.raise f t) :=
  h.trans (.raise f t)

/-- A notice raised after an operation that leaves the links. -/
theorem RaisesOnly.raise_after (f : Notice) {s t : State} (h : t.links = s.links) : RaisesOnly s (Machine.raise f t) :=
  (RaisesOnly.of_eq h).then_raise f

/-- An operation that raises only, taken after a notice. -/
theorem RaisesOnly.after_raise {s t u : State} (f : Notice) (g : RaisesOnly (Machine.raise f t) u)
    (h : t.links = s.links) : RaisesOnly s u :=
  (RaisesOnly.raise_after f h).trans g

theorem RaisesOnly.raiseIf (b : Bool) (f : Notice) (s : State) : RaisesOnly s (raiseIf b f s) := by
  cases b
  · exact .refl s
  · exact .raise f s

/-- A flag raised once is still raised after operations that raise only. -/
theorem Noticed.mono {f : Notice} {s t : State} (h : Noticed f s) (g : RaisesOnly s t) : Noticed f t :=
  fun l => (g l).grows _ (h l)

theorem noticed_raise (f : Notice) (s : State) : Noticed f (raise f s) := fun l => by
  simp only [raise, Links.get_map]
  show ((s.links.get l).notices ||| f.bit).getLsbD f.number = true
  have := f.number_le
  simp [f.bit_getLsbD (n := f.number) (by omega)]

/-- Attention lines that follow still follow after operations that raise only. -/
theorem LinesFollow.mono {s t : State} (h : LinesFollow s) (g : RaisesOnly s t) : LinesFollow t := fun l =>
  ⟨(g l).line (h l).1, (g l).spare (h l).2.1, by rw [(g l).mask]; exact (h l).2.2⟩

/-! ## The operations that raise -/

variable (s : State)

theorem raises_finishProcedure : RaisesOnly s (finishProcedure s) :=
  RaisesOnly.raise_after .procedureDone rfl

theorem raises_finishIfEmpty : RaisesOnly s (finishIfEmpty s) := by
  rw [finishIfEmpty]; split
  · exact raises_finishProcedure s
  · exact .refl s

theorem raises_enterMeasuring : RaisesOnly s (enterMeasuring s) := by
  rw [enterMeasuring]; split
  · exact RaisesOnly.after (raises_finishProcedure _) rfl
  · exact .of_eq rfl

theorem raises_examineSettling : RaisesOnly s (examineSettling s) := by
  rw [examineSettling]; split
  · exact raises_finishProcedure s
  · split
    · exact raises_enterMeasuring s
    · exact .refl s

theorem raises_sealSlot (i : SlotIdx) : RaisesOnly s (sealSlot i s) := by
  rw [sealSlot]; split
  · exact RaisesOnly.after (raises_examineSettling _) rfl
  · exact .refl s

theorem raises_dropStuck (i : SlotIdx) : RaisesOnly s (dropStuck i s) := by
  rw [dropStuck]; split
  · exact RaisesOnly.after (raises_examineSettling _) rfl
  · exact .refl s

theorem raises_dropSilent (i : SlotIdx) : RaisesOnly s (dropSilent i s) := by
  rw [dropSilent]; split
  · exact RaisesOnly.after (raises_finishIfEmpty _) rfl
  · exact .refl s

theorem raises_settle : RaisesOnly s (settle s) := by
  rw [settle]
  refine RaisesOnly.trans ?_ (.of_eq (issueAll_links _))
  exact (raises_finishIfEmpty _).after rfl

theorem raises_stickValve (i : SlotIdx) : RaisesOnly s (stickValve i s) := by
  rw [stickValve]; split
  · exact .refl s
  · exact (raises_dropStuck _ i).after_raise .valveFault rfl

theorem raises_stickAndIssue (i : SlotIdx) : RaisesOnly s (stickAndIssue i s) := by
  rw [stickAndIssue]; split
  · exact .refl s
  · exact (raises_stickValve s i).trans (.of_eq (issueZone_links _ _))

theorem raises_foldl_stickValve (is : List SlotIdx) : RaisesOnly s (is.foldl (fun t i => stickValve i t) s) := by
  induction is generalizing s with
  | nil => exact .refl s
  | cons i is ih => exact (raises_stickValve s i).trans (ih _)

theorem raises_computeRound : RaisesOnly s (computeRound s) :=
  (RaisesOnly.raiseIf _ _ _).after_raise .roundDone rfl

theorem raises_completeAdoption : RaisesOnly s (completeAdoption s) := by
  rw [completeAdoption]; split
  · exact .refl s
  · refine RaisesOnly.trans ?_ (raises_foldl_stickValve _ _)
    exact (RaisesOnly.raise_after (t := { s with plan := _ }) .planAdopted rfl).trans (.of_eq rfl)

theorem raises_computeOrMiss : RaisesOnly s (computeOrMiss s) := by
  rw [computeOrMiss]; split
  · exact raises_computeRound s
  · exact .of_eq rfl

theorem raises_roundEvent : RaisesOnly s (roundEvent s) :=
  (raises_completeAdoption s).trans ((raises_computeOrMiss _).trans (.of_eq (issueAll_links _)))

theorem raises_takeRequested : RaisesOnly s (takeRequested s) := by
  rw [takeRequested]; split
  · exact .refl s
  · exact RaisesOnly.after (raises_roundEvent _) rfl

theorem raises_roundsAhead : RaisesOnly s (roundsAhead s) := by
  rw [roundsAhead]
  generalize s.rounds.requestsAhead = n
  induction n generalizing s with
  | zero => exact .refl s
  | succ n ih =>
    rw [Function.iterate_succ_apply]
    exact (raises_takeRequested s).trans (ih _)

theorem raises_enterShutIn (c : ShutCause) : RaisesOnly s (enterShutIn c s) :=
  RaisesOnly.raise_after .shutIn rfl

theorem raises_catchUpRound : RaisesOnly s (catchUpRound s) :=
  (raises_roundEvent s).trans (.of_eq (by rw [catchUpRound]))

theorem raises_releaseNow : RaisesOnly s (releaseNow s) := by
  simp only [releaseNow]; split
  · exact (raises_roundsAhead s).trans (RaisesOnly.after (raises_catchUpRound _) rfl)
  · exact .of_eq (by simp)

theorem raises_raiseAlarm (c : AlarmCause) : RaisesOnly s (raiseAlarm c s) :=
  (RaisesOnly.raise_after .mixAlarm rfl).trans (.of_eq rfl)

theorem raises_clearAlarm : RaisesOnly s (clearAlarm s) := RaisesOnly.raise_after .mixCleared rfl

theorem raises_alarmTakes (out : Bool) : RaisesOnly s (alarmTakes out s) := by
  rw [alarmTakes]
  split <;> split
  · exact .of_eq rfl
  · split
    · exact raises_raiseAlarm s _
    · exact .of_eq rfl
  · exact .of_eq rfl
  · split
    · exact raises_clearAlarm s
    · exact .of_eq rfl

theorem raises_deliver (d : Delivery) : RaisesOnly s (deliver d s) :=
  RaisesOnly.trans (raises_alarmTakes s (readingOut s.gas.limits d))
    (.of_eq ((bandTakes_links _ _).trans (watchTakes_links _ _)))

theorem raises_latchLine (j : LineIdx) : RaisesOnly s (latchLine j s) :=
  RaisesOnly.raise_after .tripLatched (by simp)

theorem raises_windowEdited (b : Bool) : RaisesOnly s (windowEdited b s) := by
  rw [windowEdited]; split
  · exact RaisesOnly.raise_after .windowChange rfl
  · exact .refl s

theorem raises_rollWindows (c : Clock) : RaisesOnly s (rollWindows c s) := by
  rw [rollWindows, completeRollover]; split
  · exact RaisesOnly.trans (t := raise .windowChange (deriveCeilings (rollEntries c s)))
      (.raise_after .windowChange rfl) (.of_eq (requestRoundIf_links _ _))
  · exact .of_eq rfl

theorem raises_reportPosition (i : SlotIdx) (p : Nat) (fault : Bool) : RaisesOnly s (reportPosition i p fault s) := by
  simp only [reportPosition]
  refine RaisesOnly.trans (t := takePosition i p s) (.of_eq (takePosition_links _ _ _)) ?_
  generalize takePosition i p s = a
  refine RaisesOnly.trans (t := if p ≤ 2 then sealSlot i a else a) ?_ ?_
  · split
    · exact raises_sealSlot a i
    · exact .refl a
  generalize (if p ≤ 2 then sealSlot i a else a) = b
  refine RaisesOnly.trans (t := if fault then stickAndIssue i b else b) ?_ ?_
  · split
    · exact raises_stickAndIssue b i
    · exact .refl b
  generalize (if fault then stickAndIssue i b else b) = c
  split
  · exact .of_eq (retireDone_links _ _)
  · exact .refl c

theorem raises_takeReply (h : HeadAddr) (r : HeadReply) : RaisesOnly s (takeReply h r s) := by
  cases h with
  | manifold => exact RaisesOnly.after (raises_deliver _ _) rfl
  | slot i =>
    simp only [takeReply, takeSlotReply]
    split
    · exact RaisesOnly.after (raises_reportPosition _ _ _ _) rfl
    · exact .refl s

theorem raises_missReply (h : HeadAddr) : RaisesOnly s (missReply h s) := by
  cases h with
  | manifold => exact (RaisesOnly.raiseIf _ _ _).after rfl
  | slot i =>
    simp only [missReply]
    split
    · exact .refl s
    · split
      · exact (raises_dropSilent _ i).after_raise .headSilent rfl
      · exact .of_eq rfl

theorem raises_fieldFrame (bytes : List Byte) : RaisesOnly s (fieldFrame bytes s) := by
  rw [fieldFrame]; split
  · exact .refl s
  · split
    · exact ((raises_takeReply (clearPoll s) _ _).after rfl).trans (.of_eq (sendNext_links _))
    · exact ((raises_missReply (clearPoll s) _).after rfl).trans (.of_eq (sendNext_links _))

theorem raises_pollMissed : RaisesOnly s (pollMissed s) := by
  rw [pollMissed]; split
  · exact .refl s
  · exact ((raises_missReply (clearPoll s) _).after rfl).trans (.of_eq (sendNext_links _))

theorem raises_endWrite (crc : Word32) (bytes : List Byte) : RaisesOnly s (endWrite crc bytes s) :=
  RaisesOnly.raise_after _ rfl

theorem raises_completeTest : RaisesOnly s (completeTest s) :=
  RaisesOnly.after (raises_finishProcedure _) rfl

theorem raises_endPurge : RaisesOnly s (endPurge s) := RaisesOnly.raise_after .procedureDone rfl

/-! ## What a request's owner does to the links -/

theorem raises_whenEditable (x : State × Answer) (h : RaisesOnly s x.1) : RaisesOnly s (whenEditable s x).1 := by
  rw [whenEditable]; split
  · exact h
  · exact .refl s

theorem raises_readSlot (p : Payload) : RaisesOnly s (readSlot p s).1 := by
  rw [readSlot]; split <;> exact .refl s

theorem raises_readZone (p : Payload) : RaisesOnly s (readZone p s).1 := by
  rw [readZone]; split <;> exact .refl s

theorem raises_readRoundSummary (p : Payload) : RaisesOnly s (readRoundSummary p s).1 := by
  rw [readRoundSummary]; split <;> exact .refl s

theorem raises_editPlanParameters (p : Payload) : RaisesOnly s (editPlanParameters p s).1 := by
  exact raises_whenEditable s _ (.of_eq rfl)

theorem raises_setZoneCount (p : Payload) : RaisesOnly s (setZoneCount p s).1 := by
  exact raises_whenEditable s _ (.of_eq rfl)

theorem raises_editZone (p : Payload) : RaisesOnly s (editZone p s).1 := by
  rw [editZone]; split
  · exact .refl s
  · exact raises_whenEditable s _ (.of_eq rfl)

theorem raises_editSlotEntry (p : Payload) : RaisesOnly s (editSlotEntry p s).1 := by
  rw [editSlotEntry]; split
  · exact .refl s
  · apply raises_whenEditable; split
    · exact .of_eq rfl
    · exact .refl s

theorem raises_adoptPlan : RaisesOnly s (adoptPlan s).1 := by
  apply raises_whenEditable; split
  · exact .refl s
  · exact .of_eq rfl

theorem raises_discardPending : RaisesOnly s (discardPending s).1 := by
  exact raises_whenEditable s _ (.of_eq rfl)

theorem raises_setCapacity (p : Payload) : RaisesOnly s (setCapacity p s).1 := by
  rw [setCapacity]
  exact .of_eq (by split <;> simp)

theorem raises_setRoundMode (p : Payload) : RaisesOnly s (setRoundMode p s).1 := by
  simp only [setRoundMode]; split
  · exact .refl s
  · exact .of_eq rfl

theorem raises_runRound : RaisesOnly s (runRound s).1 := by
  exact (raises_roundsAhead s).trans ((raises_roundEvent _).trans (.of_eq (by rw [runRound])))

theorem raises_setClock (p : Payload) : RaisesOnly s (setClock p s).1 := by
  simp only [setClock]; split
  · exact .of_eq rfl
  · exact .refl s

theorem raises_setWindow (p : Payload) : RaisesOnly s (setWindow p s).1 := by
  simp only [setWindow]; split
  · exact .refl s
  · split
    · exact RaisesOnly.after (raises_windowEdited _ _) rfl
    · exact .refl s

theorem raises_storePlan : RaisesOnly s (storePlan s).1 := by
  rw [storePlan]; split
  · exact .of_eq rfl
  · exact .refl s

theorem raises_setLimits (p : Payload) : RaisesOnly s (setLimits p s).1 := by
  exact .of_eq (by simp [setLimits])

theorem raises_lockSlot (p : Payload) : RaisesOnly s (lockSlot p s).1 := by
  rw [lockSlot]; split
  · exact .refl s
  · exact .of_eq (by simp)

theorem raises_unlockSlot (p : Payload) : RaisesOnly s (unlockSlot p s).1 := by
  rw [unlockSlot]; split
  · exact .refl s
  · exact .of_eq rfl

theorem raises_lockZone (p : Payload) : RaisesOnly s (lockZone p s).1 := by
  rw [lockZone]; split
  · exact .refl s
  · exact .of_eq (by simp)

theorem raises_unlockZone (p : Payload) : RaisesOnly s (unlockZone p s).1 := by
  rw [unlockZone]; split
  · exact .refl s
  · exact .of_eq rfl

theorem raises_hold : RaisesOnly s (hold s).1 := by
  rw [hold]; split
  · exact .of_eq rfl
  all_goals exact .refl s

theorem raises_release : RaisesOnly s (release s).1 := by
  rw [release]; split
  all_goals first | exact raises_releaseNow s | exact .refl s

theorem raises_shutIn : RaisesOnly s (shutIn s).1 := by
  rw [shutIn]; split
  all_goals first | exact raises_enterShutIn s _ | exact .of_eq rfl

theorem raises_releaseShutIn : RaisesOnly s (releaseShutIn s).1 := by
  rw [releaseShutIn]; split
  · exact .of_eq rfl
  all_goals exact .refl s

theorem raises_reArm (p : Payload) : RaisesOnly s (reArm p s).1 := by
  simp only [reArm]; split
  · exact .refl s
  · split
    · exact .refl s
    · split
      · exact .refl s
      · exact .of_eq rfl

theorem raises_disarm (p : Payload) : RaisesOnly s (disarm p s).1 := by
  simp only [disarm]; split
  · exact .refl s
  · exact .of_eq rfl

theorem raises_abortProcedure : RaisesOnly s (abortProcedure s).1 := by
  simp only [abortProcedure]; split
  · exact .refl s
  · exact RaisesOnly.after (raises_finishProcedure _) rfl

theorem raises_commissionSlot (p : Payload) : RaisesOnly s (commissionSlot p s).1 := by
  simp only [commissionSlot]; split
  · exact .refl s
  · split
    · exact .of_eq rfl
    · exact .refl s

theorem raises_retireSlot (p : Payload) : RaisesOnly s (retireSlot p s).1 := by
  simp only [retireSlot]; split
  · exact .refl s
  · split
    · exact .refl s
    · split
      · exact .refl s
      · exact .of_eq (by simp)

theorem raises_reclaimSlot (p : Payload) : RaisesOnly s (reclaimSlot p s).1 := by
  simp only [reclaimSlot]; split
  · exact .refl s
  · split
    · exact .refl s
    · split
      · exact .refl s
      · exact .of_eq rfl

theorem raises_setManual (p : Payload) : RaisesOnly s (setManual p s).1 := by
  simp only [setManual]; split
  · exact .refl s
  · repeat (split; exact .refl s)
    exact .of_eq rfl

theorem raises_clearManual (p : Payload) : RaisesOnly s (clearManual p s).1 := by
  simp only [clearManual]; split
  · exact .refl s
  · split
    · exact .refl s
    · exact .of_eq rfl

theorem raises_clearValveFault (p : Payload) : RaisesOnly s (clearValveFault p s).1 := by
  simp only [clearValveFault]; split
  · exact .refl s
  · split
    · exact .refl s
    · split
      · exact .of_eq (by simp)
      · exact .of_eq rfl

theorem raises_beginTest (p : Payload) : RaisesOnly s (beginTest p s).1 := by
  simp only [beginTest]; split
  · exact .refl s
  · repeat (split; exact .refl s)
    exact .of_eq rfl

theorem raises_addTestSlot (p : Payload) : RaisesOnly s (addTestSlot p s).1 := by
  simp only [addTestSlot]; split
  · exact .refl s
  · split
    · exact .refl s
    · split
      · exact .of_eq rfl
      · repeat (split; exact .refl s)
        exact .of_eq rfl

theorem raises_suspendTest : RaisesOnly s (suspendTest s).1 := by
  rw [suspendTest]; split
  · exact .of_eq rfl
  · exact .refl s

theorem raises_resumeTest : RaisesOnly s (resumeTest s).1 := by
  cases h : s.proc.state <;> simp only [resumeTest, h]
  case suspended => exact raises_settle s
  all_goals exact .refl s

theorem raises_beginPurge (p : Payload) : RaisesOnly s (beginPurge p s).1 := by
  cases h : slotOf (u8 p 0) with
  | none => simpa only [beginPurge, h] using .refl s
  | some i =>
    simp only [beginPurge, h]
    split
    · exact .refl s
    · split
      · exact .refl s
      · split
        · exact .refl s
        · exact .of_eq (startPurge_links _ _ _)

/-- An owning block decides a request without touching any link's receiver or the request in progress, and
every command but the notice commands raises only. -/
theorem raises_owner (l : Link) (p : Payload) (c : Command) (h : c ≠ .clearNotices) (g : c ≠ .setNoticeMask) :
    RaisesOnly s (owner l p c s).1 := by
  cases c
  case readSlot => exact raises_readSlot s p
  case readZone => exact raises_readZone s p
  case readRoundSummary => exact raises_readRoundSummary s p
  case editPlanParameters => exact raises_editPlanParameters s p
  case setZoneCount => exact raises_setZoneCount s p
  case editZone => exact raises_editZone s p
  case editSlotEntry => exact raises_editSlotEntry s p
  case adoptPlan => exact raises_adoptPlan s
  case discardPending => exact raises_discardPending s
  case setCapacity => exact raises_setCapacity s p
  case setRoundMode => exact raises_setRoundMode s p
  case runRound => exact raises_runRound s
  case setClock => exact raises_setClock s p
  case setWindow => exact raises_setWindow s p
  case storePlan => exact raises_storePlan s
  case setLimits => exact raises_setLimits s p
  case lockSlot => exact raises_lockSlot s p
  case unlockSlot => exact raises_unlockSlot s p
  case lockZone => exact raises_lockZone s p
  case unlockZone => exact raises_unlockZone s p
  case hold => exact raises_hold s
  case release => exact raises_release s
  case shutIn => exact raises_shutIn s
  case releaseShutIn => exact raises_releaseShutIn s
  case reArm => exact raises_reArm s p
  case disarm => exact raises_disarm s p
  case abortProcedure => exact raises_abortProcedure s
  case commissionSlot => exact raises_commissionSlot s p
  case retireSlot => exact raises_retireSlot s p
  case reclaimSlot => exact raises_reclaimSlot s p
  case setManual => exact raises_setManual s p
  case clearManual => exact raises_clearManual s p
  case clearValveFault => exact raises_clearValveFault s p
  case beginTest => exact raises_beginTest s p
  case addTestSlot => exact raises_addTestSlot s p
  case suspendTest => exact raises_suspendTest s
  case resumeTest => exact raises_resumeTest s
  case beginPurge => exact raises_beginPurge s p
  case clearNotices => exact absurd rfl h
  case setNoticeMask => exact absurd rfl g
  all_goals exact .refl s

end Sys2Proof.Machine
end

