-- ==== Sys2Proof/Laws/Requests.lean ====
section
/-! SUPPORT. A request from its frame to its reply, said once for all 45 commands: what `exec` answers when
the request is admitted, and what it answers otherwise. -/

namespace Sys2Proof.Machine

variable (s : State) (l : Link) (p : Payload) (c : Command)

/-- Every command's meaning is the taking of its request. -/
theorem exec_requestInstr : exec (requestInstr l p c) s = .next (takeRequest l c p (owner l p c) s) := by
  cases c <;> rfl

/-- An owning block leaves every link's traffic as it was: receiver, request in progress, bytes sent. -/
theorem owner_traffic (m : Link) :
    ((owner l p c s).1.links.get m).receiver = (s.links.get m).receiver ∧
      ((owner l p c s).1.links.get m).request = (s.links.get m).request ∧
      ((owner l p c s).1.links.get m).sent = (s.links.get m).sent := by
  by_cases h : c = .clearNotices
  · subst h
    simp only [owner, clearNotices]
    split
    · simp only [setLink]
      by_cases g : m = l
      · subst g; simp [LinkState.refresh]
      · simp [Links.get_set_ne _ _ g]
    · exact ⟨rfl, rfl, rfl⟩
  · by_cases k : c = .setNoticeMask
    · subst k
      simp only [owner, setNoticeMask, setLink]
      by_cases g : m = l
      · subst g; simp [LinkState.refresh]
      · simp [Links.get_set_ne _ _ g]
    · have := raises_owner s l p c h k m
      exact ⟨this.receiver, this.request, this.sent⟩

theorem huntAgain_eq_discarded : huntAgain l s = discarded l s := rfl

@[simp] theorem discarded_receiver : ((discarded l s).links.get l).receiver = .hunting := by
  simp [discarded]

/-- A reply put in progress on a link whose receiver is HUNTING is the whole answer. -/
theorem answer_eq_answered (code : Byte) (a : Answer) (h : (s.links.get l).receiver = .hunting) :
    answer l code a s = answered l code a.result a.data s := by
  simp only [answer, answered, setLink, ← h]

/-- An answer does not depend on where the receiver stood. -/
theorem answered_discarded (code : Byte) (r : Result) (data : List Byte) :
    answered l code r data (discarded l s) = answered l code r data s := by
  simp [answered, discarded]

theorem checkRequest_eq_none :
    checkRequest l c p = none ↔ lengthOk c p = true ∧ permitted c l = true ∧ numbersOk c p = true := by
  simp only [checkRequest]
  cases lengthOk c p <;> cases permitted c l <;> cases numbersOk c p <;> simp

/-- R148, R149: a request taken on a free link and refused by a check. -/
theorem exec_of_refused (r : Result) (h : LinkFree l s) (g : checkRequest l c p = some r) :
    exec (requestInstr l p c) s = .next (answered l (codeOf c) r [] s) := by
  rw [exec_requestInstr, takeRequest]
  simp only [busy, show (s.links.get l).request = none from h, g, Option.isSome_none, Bool.false_eq_true, if_false]
  rw [huntAgain_eq_discarded, answer_eq_answered _ _ _ _ (discarded_receiver s l), answered_discarded]
  rfl

/-- R148, R149: a request that passes every check is decided by its owner, and its reply is in progress. -/
theorem exec_of_admitted (h : Admitted l c p s) :
    exec (requestInstr l p c) s =
      .next
        (answered l (codeOf c) (owner l p c (discarded l s)).2.result (owner l p c (discarded l s)).2.data
          (owner l p c (discarded l s)).1) := by
  rw [exec_requestInstr, takeRequest]
  simp only [busy, show (s.links.get l).request = none from h.1, h.2, Option.isSome_none, Bool.false_eq_true, if_false]
  rw [huntAgain_eq_discarded, answer_eq_answered]
  rw [(owner_traffic (discarded l s) l p c l).1, discarded_receiver]

/-- R148: a request on a link whose reply is in progress is discarded. -/
theorem exec_of_busy (r : Reply) (h : (s.links.get l).request = some r) :
    exec (requestInstr l p c) s = .next (discarded l s) := by
  rw [exec_requestInstr, takeRequest]
  simp [busy, h, huntAgain_eq_discarded]

/-- A flag noticed before an answer is noticed after it. -/
theorem Noticed.answered {s : State} {f : Notice} (h : Noticed f s) (l : Link) (k : Byte) (r : Result) (d : List Byte) :
    Noticed f (answered l k r d s) := fun m => by
  by_cases g : m = l
  · subst g; simpa [Machine.answered] using h m
  · simpa [Machine.answered, Links.get_set_ne _ _ g] using h m

end Sys2Proof.Machine
end

