-- ==== Sys2Proof/Laws/Motion.lean ====
section
/-! SUPPORT. The queue order and the issue of entries: what the test for issue finds, and what issuing leaves
of every valve. -/

namespace Sys2Proof.Machine

/-! ## The queue order (R72) -/

theorem entryBefore_total (a b : QueueEntry) : entryBefore a b = true ∨ entryBefore b a = true := by
  obtain ⟨sa, ka, _⟩ := a
  obtain ⟨sb, kb, _⟩ := b
  cases ka <;> cases kb <;> simp [entryBefore]
  · exact le_total sa sb
  · omega

theorem entryBefore_trans {a b c : QueueEntry} (h : entryBefore a b = true) (g : entryBefore b c = true) :
    entryBefore a c = true := by
  obtain ⟨sa, ka, _⟩ := a
  obtain ⟨sb, kb, _⟩ := b
  obtain ⟨sc, kc, _⟩ := c
  cases ka <;> cases kb <;> cases kc <;> simp [entryBefore] at h g ⊢
  · exact h.trans g
  · omega

/-- Putting entries into the queue order loses none and adds none. -/
theorem sortQueue_perm (q : List QueueEntry) : (sortQueue q).Perm q := List.perm_insertionSort _ q

@[simp] theorem mem_sortQueue {q : List QueueEntry} {e : QueueEntry} : e ∈ sortQueue q ↔ e ∈ q :=
  (sortQueue_perm q).mem_iff

/-! ## The issue of entries (R75) -/

variable {s : State} {k : ZoneIdx} {e : QueueEntry}

/-- What the test for issue finds: an entry of the zone's queue, allowed by the stepping count. -/
theorem nextIssue_some (h : nextIssue s k = some e) :
    steppingAllows s k = true ∧ e ∈ s.motion.queues.get k ∧ mayIssue s e = true := by
  simp only [nextIssue] at h
  split at h
  · rename_i g
    exact ⟨g, List.mem_of_find?_eq_some h, List.find?_some h⟩
  · exact absurd h (by simp)

theorem valveOf_issueEntry (i : SlotIdx) :
    valveOf (issueEntry k e s) i =
      if i = e.slot then { valveOf s e.slot with commanded := e.position, state := .moving s.elapsed }
      else valveOf s i := by
  simp only [issueEntry, valveOf, setValve, Table.get_set]

/-- Issuing entries never changes a target or a reported position. -/
theorem issueLoop_target_reported (n : Nat) (s : State) (i : SlotIdx) :
    (valveOf (issueLoop n k s) i).target = (valveOf s i).target ∧
      (valveOf (issueLoop n k s) i).reported = (valveOf s i).reported := by
  induction n generalizing s with
  | zero => exact ⟨rfl, rfl⟩
  | succ n ih =>
    rw [issueLoop]
    split
    · exact ⟨rfl, rfl⟩
    · rw [(ih _).1, (ih _).2, valveOf_issueEntry]
      split <;> simp_all

@[simp] theorem valveOf_issueZone_target (s : State) (i : SlotIdx) :
    (valveOf (issueZone k s) i).target = (valveOf s i).target := (issueLoop_target_reported _ s i).1

@[simp] theorem valveOf_issueZone_reported (s : State) (i : SlotIdx) :
    (valveOf (issueZone k s) i).reported = (valveOf s i).reported := (issueLoop_target_reported _ s i).2

theorem issueFold_target_reported (ks : List ZoneIdx) (s : State) (i : SlotIdx) :
    (valveOf (ks.foldl (fun t k => issueZone k t) s) i).target = (valveOf s i).target ∧
      (valveOf (ks.foldl (fun t k => issueZone k t) s) i).reported = (valveOf s i).reported := by
  induction ks generalizing s with
  | nil => exact ⟨rfl, rfl⟩
  | cons k ks ih => rw [List.foldl_cons, (ih _).1, (ih _).2]; simp

@[simp] theorem valveOf_issueAll_target (s : State) (i : SlotIdx) :
    (valveOf (issueAll s) i).target = (valveOf s i).target := (issueFold_target_reported allZones s i).1

@[simp] theorem valveOf_issueAll_reported (s : State) (i : SlotIdx) :
    (valveOf (issueAll s) i).reported = (valveOf s i).reported := (issueFold_target_reported allZones s i).2

/-! ## The polls (R23) -/

/-- Sending the next poll changes the outstanding poll and the list alone. -/
theorem nextPoll_scanner (hs : List HeadAddr) (s : State) :
    (nextPoll hs s).scanner.heads = s.scanner.heads ∧ (nextPoll hs s).scanner.records = s.scanner.records ∧
      (nextPoll hs s).scanner.manifoldHead = s.scanner.manifoldHead ∧
      (nextPoll hs s).scanner.manifold = s.scanner.manifold := by
  induction hs with
  | nil => exact ⟨rfl, rfl, rfl, rfl⟩
  | cons h hs ih =>
    cases h with
    | manifold => exact ⟨rfl, rfl, rfl, rfl⟩
    | slot i =>
      rw [nextPoll]
      split
      · exact ⟨rfl, rfl, rfl, rfl⟩
      · exact ih

/-! ## Round events (R44) -/

/-- What the Round Controller's settings hold besides the counts of waiting requests. -/
theorem roundEvent_requestsAhead (s : State) :
    (roundEvent s).rounds.requestsAhead = s.rounds.requestsAhead := by
  simp only [roundEvent, issueAll_rounds, computeOrMiss]
  split
  · simp [computeRound, handTargets]
  · simp [markMissed]

/-- A round event leaves the round settings and the allocator as they were. -/
theorem roundEvent_settings (s : State) :
    (roundEvent s).rounds.mode = s.rounds.mode ∧ (roundEvent s).rounds.period = s.rounds.period ∧
      (roundEvent s).rounds.nextExpiry = s.rounds.nextExpiry ∧
      (roundEvent s).rounds.allocator = s.rounds.allocator ∧
      (roundEvent s).rounds.capacity = s.rounds.capacity ∧ (roundEvent s).rounds.requests = s.rounds.requests ∧
      (roundEvent s).rounds.gasBandRequests = s.rounds.gasBandRequests := by
  simp only [roundEvent, issueAll_rounds, computeOrMiss]
  split
  · simp [computeRound, handTargets]
  · simp [markMissed]

/-! ## Requested rounds (R46, R47) -/

/-- With no round to come first, another round event comes at once. -/
theorem roundsAhead_of_zero (h : s.rounds.requestsAhead = 0) : roundsAhead s = s := by
  rw [roundsAhead, h, Function.iterate_zero_apply]

theorem takeRequested_none (h : s.rounds.requests = 0) : takeRequested s = s := by rw [takeRequested, h]

theorem takeRequested_some {n : Nat} (h : s.rounds.requests = n + 1) :
    takeRequested s =
      roundEvent
        { s with rounds := { s.rounds with requests := n, requestsAhead := s.rounds.requestsAhead - 1 } } := by
  rw [takeRequested, h]

/-- What taking a request does to the counts, and that it leaves the settings and the allocator. -/
theorem takeRequested_settings (s : State) :
    (takeRequested s).rounds.mode = s.rounds.mode ∧ (takeRequested s).rounds.period = s.rounds.period ∧
      (takeRequested s).rounds.nextExpiry = s.rounds.nextExpiry ∧
      (takeRequested s).rounds.allocator = s.rounds.allocator ∧
      (takeRequested s).rounds.capacity = s.rounds.capacity ∧
      (takeRequested s).rounds.requests = s.rounds.requests - 1 ∧
      (0 < s.rounds.requests → (takeRequested s).rounds.requestsAhead = s.rounds.requestsAhead - 1) ∧
      (takeRequested s).rounds.gasBandRequests = s.rounds.gasBandRequests := by
  cases h : s.rounds.requests with
  | zero => simp [takeRequested_none h, h]
  | succ n =>
    rw [takeRequested_some h]
    obtain ⟨g1, g2, g3, g4, g5, g6, g7⟩ := roundEvent_settings
      { s with rounds := { s.rounds with requests := n, requestsAhead := s.rounds.requestsAhead - 1 } }
    rw [g1, g2, g3, g4, g5, g6, g7, roundEvent_requestsAhead]
    simp

/-- The rounds that come first leave the settings and the allocator. -/
theorem roundsAhead_settings (s : State) :
    (roundsAhead s).rounds.mode = s.rounds.mode ∧ (roundsAhead s).rounds.period = s.rounds.period ∧
      (roundsAhead s).rounds.nextExpiry = s.rounds.nextExpiry ∧
      (roundsAhead s).rounds.allocator = s.rounds.allocator ∧
      (roundsAhead s).rounds.capacity = s.rounds.capacity ∧
      (roundsAhead s).rounds.gasBandRequests = s.rounds.gasBandRequests :=
  ⟨iterate_takeRequested (·.rounds.mode) (fun s => (takeRequested_settings s).1) _ s,
    iterate_takeRequested (·.rounds.period) (fun s => (takeRequested_settings s).2.1) _ s,
    iterate_takeRequested (·.rounds.nextExpiry) (fun s => (takeRequested_settings s).2.2.1) _ s,
    iterate_takeRequested (·.rounds.allocator) (fun s => (takeRequested_settings s).2.2.2.1) _ s,
    iterate_takeRequested (·.rounds.capacity) (fun s => (takeRequested_settings s).2.2.2.2.1) _ s,
    iterate_takeRequested (·.rounds.gasBandRequests) (fun s => (takeRequested_settings s).2.2.2.2.2.2.2) _ s⟩

end Sys2Proof.Machine
end

