-- ==== Sys2Proof/Laws/Standings.lean ====
section
/-! SUPPORT. The closing reason of a slot, case by case of the one free value it reads: the order of R58
holds whole for every slot that has its readings or is neither locked nor tripped, and for the others too
under one value of Config.noReadingFirst, the other value being R15's. -/

namespace Sys2Proof.Machine

variable (s : State) (i : SlotIdx)

/-- The reasons of R58 tested in the order listed, the first that applies being the reason. -/
def listedReason : Option ClosedReason :=
  if lifecycleOf s i == .retiring then some .retiring
  else if closedByLock s i then some .locked
  else if tripped s i then some .tripped
  else if inTestSet s i && testClosing s then some .inTest
  else if !hasReadings s i then some .noReading
  else if isStale s i then some .stale
  else none

/-- R58 whole, for every slot, when the free value is R58's (log entry 29). -/
theorem closedReason_eq_listed (h : Config.noReadingFirst = false) : closedReason s i = listedReason s i := by
  simp [closedReason, listedReason, h]

/-- R58 whole for a slot that has its readings, whatever the free value. -/
theorem closedReason_of_readings (h : hasReadings s i = true) : closedReason s i = listedReason s i := by
  simp [closedReason, listedReason, h]

/-- R58 whole for a slot that is neither locked nor tripped, whatever the free value. -/
theorem closedReason_of_free (h : closedByLock s i = false) (g : tripped s i = false) :
    closedReason s i = listedReason s i := by simp [closedReason, listedReason, h, g]

/-- Under R15's value a locked or tripped slot that lacks readings, and is not RETIRING, is NOREADING. -/
theorem closedReason_of_new (h : Config.noReadingFirst = true) (l : lifecycleOf s i ≠ .retiring)
    (r : hasReadings s i = false) (c : closedByLock s i = true ∨ tripped s i = true) :
    closedReason s i = some .noReading := by
  rcases c with c | c <;> simp [closedReason, h, l, r, c]

/-- A slot's closing reason is that of R58's order, or NOREADING for a locked or tripped slot without
readings (R15). -/
theorem closedReason_cases :
    closedReason s i = listedReason s i ∨
      closedReason s i = some .noReading ∧ hasReadings s i = false ∧
        (closedByLock s i = true ∨ tripped s i = true) := by
  by_cases r : hasReadings s i = true
  · exact .inl (closedReason_of_readings s i r)
  by_cases c : closedByLock s i = true ∨ tripped s i = true
  · by_cases l : lifecycleOf s i = .retiring
    · exact .inl (by simp [closedReason, listedReason, l])
    · cases h : Config.noReadingFirst with
      | false => exact .inl (closedReason_eq_listed s i h)
      | true => exact .inr ⟨closedReason_of_new s i h l (by simpa using r) c, by simpa using r, c⟩
  · simp only [not_or, Bool.not_eq_true] at c
    exact .inl (closedReason_of_free s i c.1 c.2)

end Sys2Proof.Machine
end

