-- ==== Sys2Proof/WellFormed.lean ====
section
/-! DEFINITION. Which commands the outside of the part can send: what a frame's length byte allows, and
what each line-traffic row of spec/opcode_table.json says of the bytes it brings. The machine gives every
command a meaning whether or not it is well formed. -/

namespace Sys2Proof

open Machine

/-- The most payload bytes a request frame can hold: its length byte is at most 250 and counts the code
(section 8.2). -/
def maxPayload : Nat := 249

/-- Whether a payload fits a request frame. -/
def payloadFits (p : Payload) : Bool := p.length ≤ maxPayload

/-- Whether bytes are a frame's length, code and payload with a length byte in 1..250 that counts the
rest (section 10.1). -/
def bodyOk : List Byte → Bool
  | [] => false
  | len :: rest => len.toNat == rest.length && 1 ≤ len.toNat && len.toNat ≤ 250

/-- The bytes of the contents that a store write reads back (R169). -/
def imageLength : Nat := 1371

/-- Whether a command can be sent. -/
def Instr.wellFormed : Instr → Bool
  | .reset => true
  | .readStatus _ p => payloadFits p
  | .readSlot _ p => payloadFits p
  | .readZone _ p => payloadFits p
  | .readRoundSummary _ p => payloadFits p
  | .readLimits _ p => payloadFits p
  | .readResults _ p => payloadFits p
  | .readWindows _ p => payloadFits p
  | .readNotices _ p => payloadFits p
  | .clearNotices _ p => payloadFits p
  | .setNoticeMask _ p => payloadFits p
  | .editPlanParameters _ p => payloadFits p
  | .setZoneCount _ p => payloadFits p
  | .editZone _ p => payloadFits p
  | .editSlotEntry _ p => payloadFits p
  | .adoptPlan _ p => payloadFits p
  | .discardPending _ p => payloadFits p
  | .setCapacity _ p => payloadFits p
  | .setRoundMode _ p => payloadFits p
  | .runRound _ p => payloadFits p
  | .setClock _ p => payloadFits p
  | .setWindow _ p => payloadFits p
  | .storePlan _ p => payloadFits p
  | .setLimits _ p => payloadFits p
  | .lockSlot _ p => payloadFits p
  | .unlockSlot _ p => payloadFits p
  | .lockZone _ p => payloadFits p
  | .unlockZone _ p => payloadFits p
  | .hold _ p => payloadFits p
  | .release _ p => payloadFits p
  | .shutIn _ p => payloadFits p
  | .releaseShutIn _ p => payloadFits p
  | .reArm _ p => payloadFits p
  | .disarm _ p => payloadFits p
  | .abortProcedure _ p => payloadFits p
  | .commissionSlot _ p => payloadFits p
  | .retireSlot _ p => payloadFits p
  | .reclaimSlot _ p => payloadFits p
  | .setManual _ p => payloadFits p
  | .clearManual _ p => payloadFits p
  | .clearValveFault _ p => payloadFits p
  | .beginTest _ p => payloadFits p
  | .addTestSlot _ p => payloadFits p
  | .suspendTest _ p => payloadFits p
  | .resumeTest _ p => payloadFits p
  | .beginPurge _ p => payloadFits p
  | .unknownCommand _ code p => (commandOf code).isNone && payloadFits p
  | .frameCrcDiscard _ body crc => bodyOk body && crc != crc16 body
  | .frameLengthDiscard _ len => len.toNat == 0 || 250 < len.toNat
  | .interByteGapTimeout _ => true
  | .frameDuringReply _ body _ => bodyOk body
  | .replySent _ => true
  | .fieldReplyTaken frame => replyIntact frame
  | .fieldReplyRejected frame => !frame.isEmpty
  | .pollTimeout => true
  | .strayFieldBytes bytes => !bytes.isEmpty
  | .roundTimerExpiry => true
  | .requestedRound => true
  | .gasBandRequest => true
  | .travelTimeout _ => true
  | .manifoldWatchExpiry => true
  | .keyInputChange _ => true
  | .keyDebounceExpiry => true
  | .tripContactChange _ _ => true
  | .tripDebounceExpiry _ => true
  | .drainageClockAdvance => true
  | .minuteRollover => true
  | .gatheringWindowExpiry => true
  | .measuringExpiry => true
  | .purgeExpiry => true
  | .storeWriteEnd readBack => readBack.length == imageLength
  | .linkByteReceived _ _ => true

end Sys2Proof
end

