-- ==== Sys2Proof/Tests/Slice0.lean ====
section
/-! SUPPORT. The tests: ill-formed commands refused, the manual's check values and worked examples one step at
a time, and for every statement a state and operands that meet its hypotheses, clause by clause. -/

namespace Sys2Proof.Tests

open Machine

/-! ## Helpers -/

/-- The state after a command. -/
def after (c : Instr) (s : State) : State :=
  match exec c s with
  | .next t => t
  | .fault _ => s
  | .refused _ => s

/-- The result of the reply in progress on a link. -/
def resultOn (l : Link) (s : State) : Option Result := (s.links.get l).request.map (·.result)

/-- A state at an elapsed second. -/
def at_ (n : Nat) (s : State) : State := { s with elapsed := n }

/-- A state with the allocator in a state. -/
def alloc (a : Allocator) (s : State) : State := setAllocator a s

/-- No fault. -/
def noFault : FaultFlags := { methane := false, oxygen := false, flow := false, valve := false }

/-- A slot by its number. -/
def slot (n : Nat) (h : 1 ≤ n ∧ n ≤ 60 := by omega) : SlotIdx := ⟨n - 1, by omega⟩

/-- A reading record with its values renewed at one time. -/
def readings (c o q pressure position time : Nat) : ReadingRecord :=
  { methane := some { value := c, time := time }, oxygen := some { value := o, time := time },
    flow := some { value := q, time := time }, pressure := some { value := pressure, time := time },
    position := some { value := position, time := time }, drainOpen := some false, faults := some noFault }

/-- A valve at rest at a position. -/
def restedAt (p : Nat) : Valve := { target := p, commanded := p, reported := some p, state := .atRest }

/-- An ACTIVE slot with a yield estimate, a reading record and a valve, its head RESPONDING. -/
def serve (i : SlotIdx) (y : Nat) (r : ReadingRecord) (v : Valve) (s : State) : State :=
  setValve i v
    (setHead i (some freshHead)
      (setRecord i (some r)
        (setRoster i { lifecycle := .active, mode := .auto, yieldEst := some y, commissioned := some 0 } s)))

/-- The plan after a change of the active plan. -/
def withPlan (f : Plan → Plan) (s : State) : State :=
  { s with plan := { s.plan with active := f s.plan.active } }

/-- A slot's plan entry with a priority class and a maximum opening. -/
def entry (i : SlotIdx) (priority uMax : Nat) (p : Plan) : Plan :=
  { p with entries := p.entries.set i { defaultEntry with priority := priority, uMax := uMax } }

/-- A state with a poll of a head outstanding. -/
def polled (h : HeadAddr) (s : State) : State :=
  { s with scanner := { s.scanner with poll := some (pollOf s h) } }

/-- A reply's bytes. -/
def replyFrom (address c o q pressure position : Nat) (drain : Bool) (f : FaultFlags) : List Byte :=
  HeadReply.frame
    { address := address, c := c, o := o, q := q, pressure := pressure, position := position, drainOpen := drain,
      faults := f }

/-- Slot 1 ACTIVE with good readings, the allocator RUNNING with a capacity of 5000. -/
def served : State :=
  let s := at_ 60 (serve (slot 1) 4000 (readings 500 10 1000 9000 0 50) restedValve State.reset)
  { s with rounds := { s.rounds with allocator := .running, capacity := 5000 } }

/-- As `served`, with the allocation record of a round. -/
def ranked : State := { served with rounds := { served.rounds with record := some (allocate served) } }

/-- A test of slot 1 in a procedure state. -/
def testing (st : ProcState) : State :=
  { ranked with
    proc :=
      { idleProcedure with
        state := st
        testSet := [{ slot := slot 1, sealedMark := false, startPressure := none }]
        duration := some 60 } }

/-- A valve state put on slot 1. -/
def valved (v : ValveState) (s : State) : State := setValve (slot 1) { valveOf s (slot 1) with state := v } s

/-- A request in progress on the station link. -/
def busyLink : State := answered .station 0x01#8 .ok [] State.reset

/-- The station link's receiver in a state. -/
def receiving (r : Receiver) (s : State) : State :=
  setLink .station { s.links.get .station with receiver := r } s

/-! ## Ill-formed commands -/

theorem test_wf_payload_too_long : (Instr.hold .safety (List.replicate 250 0#8)).wellFormed = false := by
  decide +kernel

theorem test_wf_payload_longest : (Instr.hold .safety (List.replicate 249 0#8)).wellFormed = true := by
  decide +kernel

theorem test_wf_known_code : (Instr.unknownCommand .crew 0x25#8 []).wellFormed = false := by decide

theorem test_wf_unknown_code : (Instr.unknownCommand .crew 0x0B#8 []).wellFormed = true := by decide

theorem test_wf_right_crc : (Instr.frameCrcDiscard .crew [1#8, 8#8] (crc16 [1#8, 8#8])).wellFormed = false := by
  decide +kernel

theorem test_wf_body_without_code : (Instr.frameCrcDiscard .crew [] 0#16).wellFormed = false := by decide

theorem test_wf_body_length : (Instr.frameDuringReply .crew [2#8, 8#8] 0#16).wellFormed = false := by decide

theorem test_wf_good_length_byte : (Instr.frameLengthDiscard .crew 250#8).wellFormed = false := by decide

theorem test_wf_reply_not_intact : (Instr.fieldReplyTaken (List.replicate 17 0#8)).wellFormed = false := by decide

theorem test_wf_no_bytes : (Instr.fieldReplyRejected []).wellFormed = false := by decide

theorem test_wf_no_stray_bytes : (Instr.strayFieldBytes []).wellFormed = false := by decide

theorem test_wf_read_back_short : (Instr.storeWriteEnd []).wellFormed = false := by decide

/-! ## Check codes (R169: the check value of both is over the characters 1 to 9) -/

/-- The characters 1 to 9. -/
def digits : List Byte := [0x31#8, 0x32#8, 0x33#8, 0x34#8, 0x35#8, 0x36#8, 0x37#8, 0x38#8, 0x39#8]

theorem test_crc16_check_value : crc16 digits = 0x29B1#16 := by decide +kernel

theorem test_crc32_check_value : crc32 digits = 0xCBF43926#32 := by decide +kernel

/-! ## The part at reset and its queue -/

theorem test_reset_of_reset : after .reset State.reset = State.reset := by decide +kernel

theorem test_table_word_spells_none : decodeTableWord 8 0x25 = none := by decide

theorem test_step_takes_front :
    step { State.reset with pending := [.keyInputChange true, .pollTimeout] } =
      .next { after (.keyInputChange true) State.reset with pending := [.pollTimeout] } := rfl

/-! ## Worked example 2.11: a reading record through faults and silence -/

/-- Slot 14 as the reply of second 92 left it. -/
def example211 : State := serve (slot 14) 2000 (readings 490 21 1140 100 55 92) (restedAt 55) State.reset

/-- The record's c, o, q and p with their times. -/
def recordOf (n : SlotIdx) (s : State) : Option (List (Option (Nat × Nat))) :=
  (s.scanner.records.get n).map fun r =>
    [r.methane, r.oxygen, r.flow, r.position].map fun x => x.map fun y => (y.value, y.time)

theorem test_2_11_reply_renews_record_and_yield :
    let t := after (.fieldReplyTaken (replyFrom 14 480 22 1150 100 56 false noFault))
      (at_ 100 (polled (.slot (slot 14)) example211))
    recordOf (slot 14) t = some [some (480, 100), some (22, 100), some (1150, 100), some (56, 100)] ∧
      (t.plan.roster.get (slot 14)).yieldEst = some 2013 := by decide +kernel

theorem test_2_11_draining_reply_keeps_gas_values :
    let t := after (.fieldReplyTaken (replyFrom 14 450 30 1000 100 56 true noFault))
      (at_ 156 (polled (.slot (slot 14)) example211))
    recordOf (slot 14) t = some [some (490, 92), some (21, 92), some (1140, 92), some (56, 156)] ∧
      (t.plan.roster.get (slot 14)).yieldEst = some 2000 := by decide +kernel

theorem test_2_11_wrong_address_is_a_miss :
    let t := after (.fieldReplyRejected (replyFrom 15 1 1 1 1 1 false noFault))
      (polled (.slot (slot 14)) (setHead (slot 14) (some { state := .responding, misses := 2 }) example211))
    t.scanner.heads.get (slot 14) = some { state := .silent, misses := 3 } ∧
      (t.links.get .crew).notices.getLsbD Notice.headSilent.number = true := by decide +kernel

theorem test_poll_timeout_counts_a_miss :
    (after .pollTimeout (polled (.slot (slot 14)) example211)).scanner.heads.get (slot 14) =
      some { state := .responding, misses := 1 } := by decide +kernel

/-! ## Worked example 3.6.2: a full allocation -/

/-- The six slots of the example before the round. -/
def example362 : State :=
  let s := { State.reset with rounds := { State.reset.rounds with allocator := .running, capacity := 9000 } }
  let s := serve (slot 7) 1500 (readings 620 20 100 100 40 0) { restedAt 40 with target := 77, state := .stuck } s
  let s := serve (slot 3) 2500 (readings 480 25 100 100 0 0) (restedAt 0) s
  let s := serve (slot 4) 2000 (readings 210 70 100 100 30 0) (restedAt 30) s
  let s := serve (slot 9) 1800 (readings 710 15 100 100 0 0) (restedAt 0) s
  let s := serve (slot 12) 3000 (readings 390 30 100 100 0 0) (restedAt 0) s
  let s := serve (slot 15) 1200 (readings 150 120 100 100 0 0) (restedAt 0) s
  withPlan (fun p => entry (slot 3) 2 100 (entry (slot 4) 2 80 (entry (slot 12) 1 60 (entry (slot 15) 0 100 p)))) s

theorem test_3_6_2_sums :
    (allocate example362).sumF = 7820 ∧ (allocate example362).sumM = 3787200 ∧ (allocate example362).sumX = 233900 ∧
      (allocate example362).blend = some 484 ∧ (allocate example362).unused = 1180 := by decide +kernel

theorem test_3_6_2_targets :
    [slot 3, slot 4, slot 7, slot 9, slot 12, slot 15].map
        (fun i => ((allocate example362).entries.get i).map (·.target)) =
      [some 100, some 56, some 77, some 100, some 60, some 0] := by decide +kernel

/-! ## Worked example 1.5.4: an adoption while HELD -/

/-- A plan of three zones with the last slots given. -/
def threeZones (first : Nat) : Plan :=
  { defaultPlan with
    zoneCount := 3
    zones := (defaultPlan.zones.set 0 (defaultZone first)).set 1 (defaultZone 40) }

/-- The part before the round event of the example, with the first boundary moved from 20 to 16. -/
def example154 : State :=
  let s := [slot 3, slot 5, slot 18, slot 19].foldl
    (fun s i => serve i 1000 (readings 500 10 100 100 50 0) (restedAt 50) s) State.reset
  { at_ 30 s with
    plan := { s.plan with active := threeZones 20, pendingPlan := threeZones 16, adoption := .adopting }
    rounds := { s.rounds with allocator := .held, computed := 412 }
    motion :=
      { s.motion with
        queues :=
          s.motion.queues.set 0
            [{ slot := slot 5, kind := .closing, position := 15 },
              { slot := slot 18, kind := .closing, position := 20 },
              { slot := slot 19, kind := .opening 412 2, position := 45 },
              { slot := slot 3, kind := .opening 412 4, position := 40 }] } }

theorem test_1_5_4_queues_migrate_and_closing_entries_issue :
    let t := after .roundTimerExpiry example154
    ((t.motion.queues.get 0).map fun e => (slotNum e.slot, e.position)) = [(3, 40)] ∧
      ((t.motion.queues.get 1).map fun e => (slotNum e.slot, e.position)) = [(19, 45)] ∧
      (valveOf t (slot 5)).isMoving = true ∧ (valveOf t (slot 18)).isMoving = true ∧
      t.rounds.missed = true ∧ t.plan.adoption = .editable := by decide +kernel

/-! ## Worked example 4.8: one zone through a hold, a lock and a timeout -/

/-- Slots 42 and 46 with opening entries of round 520, the allocator HELD, no valve MOVING. -/
def example48 : State :=
  let s := serve (slot 46) 1000 (readings 500 10 100 100 40 0) (restedAt 40)
    (serve (slot 42) 1000 (readings 500 10 100 100 31 0) (restedAt 30) State.reset)
  { at_ 2025 s with
    plan :=
      { s.plan with
        active :=
          { s.plan.active with
            zones := s.plan.active.zones.set 0 { defaultZone 6 with ramp := 20, stepping := .two } } }
    rounds := { s.rounds with allocator := .held }
    motion :=
      { s.motion with
        queues :=
          s.motion.queues.set 0
            [{ slot := slot 42, kind := .opening 520 2, position := 50 },
              { slot := slot 46, kind := .opening 520 3, position := 55 }] } }

theorem test_4_8_release_issues_both :
    let t := after (.release .safety []) example48
    t.motion.queues.get 0 = [] ∧ (valveOf t (slot 42)).state = .moving 2025 ∧
      (valveOf t (slot 46)).commanded = 55 := by decide +kernel

theorem test_4_8_lock_closes_and_empties :
    let t := after (.lockSlot .safety [42#8]) example48
    (valveOf t (slot 42)).state = .moving 2025 ∧ (valveOf t (slot 42)).commanded = 0 ∧
      (t.motion.queues.get 0).map (·.slot) = [slot 46] := by decide +kernel

theorem test_4_8_travel_timeout_sticks :
    let s := setValve (slot 46) { restedAt 40 with commanded := 55, state := .moving 2025 } example48
    (valveOf (after (.travelTimeout (slot 46)) (at_ 2069 s)) (slot 46)).isStuck = false ∧
      (valveOf (after (.travelTimeout (slot 46)) (at_ 2070 s)) (slot 46)).isStuck = true := by decide +kernel

theorem test_4_8_cleared_fault_holds_where_reported :
    let v := { restedAt 44 with target := 55, commanded := 55, state := .stuck }
    let t := after (.clearValveFault .crew [46#8]) (alloc .running (setValve (slot 46) v example48))
    valveOf t (slot 46) = restedAt 44 := by decide +kernel

/-! ## Worked example 5.7: the alarm, the gas band and a silent manifold -/

/-- The manifold polled at a second, the monitor as given. -/
def monitored (n : Nat) (f : GasMonitor → GasMonitor) : State :=
  let s := polled .manifold (at_ n (alloc .running State.reset))
  { s with gas := f s.gas }

theorem test_5_7_third_out_reading_raises :
    let t := after (.fieldReplyTaken (replyFrom 0 230 28 1000 100 0 false noFault))
      (monitored 548 fun g => { g with outCount := 2, watchRef := 532 })
    t.gas.alarm = .raised .readings ∧ t.gas.effectiveFloor = 350 ∧ t.rounds.requests = 1 ∧ t.gas.watchRef = 548 := by
  decide +kernel

theorem test_5_7_second_low_reading_requests_shut_in :
    let t := after (.fieldReplyTaken (replyFrom 0 195 30 1000 100 0 false noFault))
      (monitored 572 fun g => { g with alarm := .raised .readings, bandCount := 1 })
    t.gas.bandCount = 0 ∧ t.rounds.gasBandRequests = 1 := by decide +kernel

theorem test_5_7_watch_spends_and_raises :
    let t := after .manifoldWatchExpiry (monitored 776 fun g => { g with watchRef := 716 })
    t.gas.watch = .spent ∧ t.gas.alarm = .raised .noManifold := by decide +kernel

theorem test_5_7_gas_band_request_shuts_in :
    let s := monitored 572 id
    (after .gasBandRequest { s with rounds := { s.rounds with gasBandRequests := 1 } }).rounds.allocator =
      .shutIn .gasBand := by decide +kernel

/-! ## Requested rounds that come first (R47), and timeouts at an adoption (R12) -/

/-- An adoption outstanding that lowers the travel timeout to 10 s. -/
def adopting12 : State :=
  { served with
    plan := { served.plan with pendingPlan := { defaultPlan with travelTimeout := 10 }, adoption := .adopting } }

theorem test_R47_requested_round_precedes_run_round :
    let t := after (.runRound .station []) (requestRoundAhead served)
    t.rounds.computed = served.rounds.computed + 2 ∧ t.rounds.requests = 0 ∧ t.rounds.requestsAhead = 0 := by
  decide +kernel

theorem test_R12_move_times_out_at_the_copy :
    let s := at_ 30 (valved (.moving 15) adopting12)
    (valveOf (completeAdoption s) (slot 1)).isStuck = true ∧
      (valveOf (completeAdoption (at_ 24 s)) (slot 1)).isMoving = true := by decide +kernel

/-! ## Worked examples 6.1.1 and 6.3.1: a trip line and quiet windows -/

/-- Line 3 LATCHED with its contact closed. -/
def latchedLine : State :=
  setLine 2 { state := .latched, contactClosed := true, inputActive := true } State.reset

theorem test_6_1_1_latches_an_armed_line :
    let s := setLine 2 { state := .armed, contactClosed := true, inputActive := false } State.reset
    (after (.tripDebounceExpiry 2) s).trips.lines.get 2 =
      { state := .latched, contactClosed := true, inputActive := true } := by decide +kernel

theorem test_6_1_1_re_arm_refused :
    resultOn .safety (after (.reArm .safety [3#8]) latchedLine) = some .lineActive := by decide +kernel

theorem test_6_1_1_disarm :
    ((after (.disarm .safety [3#8]) latchedLine).trips.lines.get 2).state = .disarmed := by decide +kernel

/-- The first entry of the example: every day at 22:00 for 90 minutes, zones 2 and 3, ceiling 40. -/
def example631 : State :=
  let s := State.reset
  let e : WindowEntry :=
    { enabled := true, weekday := none, hour := some 22, minute := 0, duration := 90, zones := 6#10, ceiling := 40 }
  { s with
    trips :=
      { s.trips with
        windows := s.trips.windows.set 0 { entry := e, remaining := none }
        clock := { weekday := 5, hour := 22, minute := 0, second := 0 }
        unset := false
        rolloversDue := [{ weekday := 5, hour := 22, minute := 0, second := 0 }] } }

theorem test_6_3_1_window_opens :
    let t := after .minuteRollover example631
    (t.trips.windows.get 0).remaining = some 90 ∧ t.trips.ceilings.get 1 = some 40 ∧
      t.trips.ceilings.get 3 = none ∧ t.rounds.requests = 1 := by decide +kernel

theorem test_6_3_1_edit_ends_the_occurrence :
    let t := after (.setWindow .station [1#8, 1#8, 255#8, 22#8, 0#8, 90#8, 6#8, 0#8, 25#8])
      (after .minuteRollover example631)
    (t.trips.windows.get 0).remaining = none ∧ t.trips.ceilings.get 1 = none := by decide +kernel

/-! ## Worked examples 7.10 and 7.11: a test and a purge -/

/-- A test of slot 12 in a state, with its start pressure. -/
def example710 (st : ProcState) (start : Option Nat) (n : Nat) : State :=
  let s := serve (slot 12) 1000 (readings 500 10 100 10835 0 n) (restedAt 0) State.reset
  { at_ n s with
    proc :=
      { idleProcedure with
        state := st
        testSet := [{ slot := slot 12, sealedMark := false, startPressure := start }]
        duration := some 600
        measureStart := if st == .measuring then some 1060 else none
        measureExpiry := if st == .measuring then some 1660 else none } }

theorem test_7_10_rise_rate :
    ((after .measuringExpiry (example710 .measuring (some 10420) 1660)).proc.results.map (·.riseRate)) =
      [some 41] := by decide +kernel

theorem test_7_10_seal_starts_the_measuring :
    let t := after (.fieldReplyTaken (replyFrom 12 500 10 100 10420 1 false noFault))
      (polled (.slot (slot 12)) (example710 .settling none 1060))
    t.proc.state = .measuring ∧ t.proc.testSet.map (·.startPressure) = [some 10420] ∧
      t.proc.measureExpiry = some 1660 := by decide +kernel

theorem test_7_10_valve_fault_leaves_no_seal :
    let t := after (.fieldReplyTaken (replyFrom 12 500 10 100 9000 45 false { noFault with valve := true }))
      (polled (.slot (slot 12)) (example710 .settling none 1054))
    t.proc.state = .idle ∧ t.proc.errorFlag = true ∧ t.proc.results.map (·.outcome) = [.noSeal] := by decide +kernel

theorem test_7_11_purge_of_a_set_slot_refused :
    resultOn .crew (after (.beginPurge .crew [12#8, 120#8, 0#8]) (example710 .suspended none 3210)) =
      some .slotInTest := by decide +kernel

theorem test_7_11_abort_measures_to_now :
    ((after (.abortProcedure .safety []) (example710 .measuring (some 10420) 1211)).proc.results.map
        fun r => (r.outcome, r.endPressure, r.seconds)) =
      [(.aborted, some 10835, 151)] := by decide +kernel

/-! ## Chapters 8 and 9 -/

theorem test_reply_frame_code_has_its_top_bit_set :
    ((after (.replySent .crew) (after (.runRound .crew []) State.reset)).links.crew.sent).take 4 =
      [0xA5#8, 0x02#8, 0x98#8, 0x12#8] := by decide +kernel

theorem test_read_slot_data_is_93_bytes :
    ((after (.readSlot .crew [60#8]) State.reset).links.crew.request.map fun r => r.data.length) = some 93 := by
  decide +kernel

theorem test_store_plan_marks_the_stored_image_invalid :
    let s := { State.reset with store := { State.reset.store with stored := { State.reset.store.stored with markedValid := true } } }
    (after (.storePlan .station []) s).store.stored.markedValid = false := by decide +kernel

theorem test_stored_crc_low_byte_first :
    let s := { State.reset with store := { State.reset.store with state := .writing (captureImage State.reset) 0xCBF43926#32 0 } }
    (after (.storeWriteEnd digits) s).store.stored =
      { contents := digits, crcBytes := [0x26#8, 0x39#8, 0xF4#8, 0xCB#8], markedValid := true } := by decide +kernel

theorem test_image_is_1371_bytes : (captureImage served).bytes.length = 1371 := by decide +kernel

theorem test_image_read_back : decodeImage (captureImage served).bytes = some (captureImage served) := by
  decide +kernel

/-! ## The hypotheses of the statements

For each statement of Obligations.lean that has hypotheses, a state and operands that meet them, clause by
clause and at the ends of each clause's range. -/

/-- A reply in progress. -/
def someReply : Reply := { code := 0x01#8, result := .ok, data := [] }

theorem test_hyp_StepRunsFrontCommand :
    ({ State.reset with pending := [.pollTimeout] } : State).pending = [.pollTimeout] ∧ State.reset.pending = [] :=
  ⟨rfl, rfl⟩

theorem test_hyp_RequestChecks :
    LinkFree .station State.reset ∧ commandOf 0x00#8 = none ∧ commandOf 0xFF#8 = none ∧
      [0#8].length ≠ payloadLength [0#8] .hold ∧
      (([] : Payload).length = payloadLength [] .hold ∧ permitted .hold .station = false) ∧
      ([0#8].length = payloadLength [0#8] .readSlot ∧ permitted .readSlot .station = true) ∧
      (numbersOk .readSlot [0#8] = false ∧ numbersOk .readSlot [61#8] = false) ∧
      (numbersOk .readSlot [1#8] = true ∧ numbersOk .readSlot [60#8] = true) ∧
      (numbersOk .readZone [11#8] = false ∧ numbersOk .readZone [10#8] = true) := by decide +kernel

theorem test_hyp_AuthorityTable :
    LinkFree .crew State.reset ∧ [1#8].length = payloadLength [1#8] .lockSlot ∧
      permitted .lockSlot .crew = false ∧ permitted .lockSlot .safety = true := by decide +kernel

theorem test_hyp_ReceiverTakesBytes :
    (State.reset.links.get .station).receiver = .hunting ∧
      ((receiving (.assembling true []) State.reset).links.get .station).receiver = .assembling true [] ∧
      (1 ≤ (1#8).toNat ∧ (250#8).toNat ≤ 250) ∧ ((0#8).toNat = 0 ∧ 250 < (251#8).toNat) ∧
      ((receiving (.assembling false [1#8, 8#8]) State.reset).links.get .station).receiver =
        .assembling false (1#8 :: [8#8]) ∧
      [8#8].length + 1 < (1#8).toNat + 2 ∧ [8#8, 0#8].length + 1 = (1#8).toNat + 2 := by decide +kernel

theorem test_hyp_FramesDiscarded :
    (LinkFree .station State.reset ∧ 0#16 ≠ crc16 [1#8, 8#8]) ∧
      ((receiving (.assembling false []) State.reset).links.get .station).receiver = .assembling false [] ∧
      (State.reset.links.get .station).receiver = .hunting ∧
      (busyLink.links.get .station).request = some someReply := by decide +kernel

theorem test_hyp_BytewiseReceptionIsRequest :
    LinkFree .station State.reset ∧ (State.reset.links.get .station).receiver = .hunting ∧
      1 + (List.replicate 249 0#8).length ≤ 250 ∧ 1 + ([] : Payload).length ≤ 250 := by decide +kernel

theorem test_hyp_ReplySentEndsRequest :
    (busyLink.links.get .station).request = some someReply ∧ (State.reset.links.get .station).request = none := by
  decide +kernel

theorem test_hyp_EveryReplyFitsAFrame :
    PlansInRange State.reset ∧ LinkFree .crew State.reset ∧
      exec (requestInstr .crew [60#8] .readSlot) State.reset = .next (after (.readSlot .crew [60#8]) State.reset) := by
  refine ⟨?_, rfl, rfl⟩
  unfold PlansInRange
  decide +kernel

theorem test_hyp_RefusalsChangeNothing :
    let t := after (.hold .station []) State.reset
    let r : Reply := { code := 0x25#8, result := .notPermitted, data := [] }
    LinkFree .station State.reset ∧ exec (requestInstr .station [] .hold) State.reset = .next t ∧
      (t.links.get .station).request = some r ∧ r.result ≠ .ok ∧ r.result ≠ .clamped :=
  ⟨rfl, rfl, by decide +kernel, by decide, by decide⟩

theorem test_hyp_ReadsAnswerAndChangeNothing :
    let s := State.reset
    (Admitted .station .readStatus [] s ∧ Admitted .safety .readLimits [] s ∧ Admitted .crew .readResults [] s ∧
        Admitted .station .readWindows [] s ∧ Admitted .safety .readNotices [] s) ∧
      (Admitted .crew .readSlot [1#8] s ∧ slotOf (u8 [1#8] 0) = some (slot 1)) ∧
      (Admitted .crew .readSlot [60#8] s ∧ slotOf (u8 [60#8] 0) = some (slot 60)) ∧
      (Admitted .crew .readZone [1#8] s ∧ zoneOfNum (u8 [1#8] 0) = some 0) ∧
      (Admitted .crew .readZone [10#8] s ∧ zoneOfNum (u8 [10#8] 0) = some 9) ∧
      Admitted .crew .readRoundSummary [1#8] s ∧ Admitted .crew .readRoundSummary [60#8] s := by decide +kernel

theorem test_hyp_ReadRecordSizes :
    let r := allocate served
    PlansInRange State.reset ∧ State.reset.rounds.record = none ∧ ranked.rounds.record = some r ∧
      (∃ e, (fillPage 40 6 (entriesFrom r (slot 1))).2 = (slot 1, e) :: []) ∧
      (fillPage 40 7 (entriesFrom r (slot 1))).2 = [] ∧ (fillPage 0 215 (entriesFrom r (slot 1))).2 ≠ [] := by
  refine ⟨?_, rfl, rfl, ⟨_, rfl⟩, by decide +kernel, by decide +kernel⟩
  unfold PlansInRange
  decide +kernel

theorem test_hyp_NoticeSets :
    Admitted .crew .clearNotices [2#8, 0#8, 15#8] State.reset ∧
      (∀ b ∈ ([2#8, 0#8, 15#8] : Payload).drop 1, b.toNat ≤ 15) ∧
      Admitted .crew .clearNotices [1#8, 16#8] State.reset ∧
      (∃ b ∈ ([1#8, 16#8] : Payload).drop 1, 15 < b.toNat) ∧
      Admitted .crew .setNoticeMask [0xFF#8, 0xFF#8] State.reset := by decide +kernel

/-- The payload of Edit Slot Entry for slot 60 with a tag of one character, repeated. -/
def entryPayload (n : Nat) (c : Byte) : Payload :=
  [60#8, 3#8, 100#8, 50#8, 0#8, 0#8, byteOf n] ++ List.replicate n c

theorem test_hyp_PlanEdits :
    let s := State.reset
    let good := fun tag : List Byte => tag.length ≤ 12 ∧ ∀ b ∈ tag, 0x20 ≤ b.toNat ∧ b.toNat ≤ 0x7E
    let tag := fun p : Payload => (p.drop 7).take (u8 p 6)
    s.plan.adoption = .editable ∧ Admitted .station .editPlanParameters [19#8, 0#8, 121#8] s ∧
      Admitted .station .setZoneCount [0#8] s ∧ Admitted .station .setZoneCount [11#8] s ∧
      (Admitted .station .editZone [1#8, 6#8, 0#8, 3#8, 4#8] s ∧ zoneOfNum (u8 [1#8, 6#8, 0#8, 3#8, 4#8] 0) = some 0) ∧
      (Admitted .station .editZone [10#8, 6#8, 101#8, 5#8, 5#8] s ∧
        zoneOfNum (u8 [10#8, 6#8, 101#8, 5#8, 5#8] 0) = some 9) ∧
      (Admitted .station .editSlotEntry (entryPayload 12 0x7E#8) s ∧
        slotOf (u8 (entryPayload 12 0x7E#8) 0) = some (slot 60) ∧ good (tag (entryPayload 12 0x7E#8))) ∧
      (Admitted .station .editSlotEntry (entryPayload 12 0x20#8) s ∧ good (tag (entryPayload 12 0x20#8))) ∧
      (Admitted .station .editSlotEntry (entryPayload 13 0x41#8) s ∧ ¬good (tag (entryPayload 13 0x41#8))) ∧
      (Admitted .station .editSlotEntry (entryPayload 1 0x1F#8) s ∧ ¬good (tag (entryPayload 1 0x1F#8))) ∧
      ¬good (tag (entryPayload 1 0x7F#8)) := by decide +kernel

/-- A part whose active plan has ten zones at their default last slots. -/
def tenZonesActive : State := withPlan (fun p => { p with zoneCount := 10 }) State.reset

theorem test_hyp_PlanEdits_spans :
    PlansInRange tenZonesActive ∧
      (zoneAt tenZonesActive (slot 6) = 0 ∧ zoneAt tenZonesActive (slot 7) = 1 ∧
        zoneAt tenZonesActive (slot 54) = 8 ∧ zoneAt tenZonesActive (slot 55) = 9 ∧
        zoneAt tenZonesActive (slot 60) = 9) := by
  refine ⟨?_, by decide +kernel⟩
  unfold PlansInRange
  decide +kernel

/-- An adoption outstanding. -/
def adoptingNow : State := { State.reset with plan := { State.reset.plan with adoption := .adopting } }

/-- A pending plan of ten zones at their default last slots. -/
def tenZones : State := setPending { defaultPlan with zoneCount := 10 } State.reset

/-- A pending plan whose zone 9 ends at slot 60. -/
def tenZonesBad : State :=
  setPending { defaultPlan with zoneCount := 10, zones := defaultPlan.zones.set 8 (defaultZone 60) } State.reset

theorem test_hyp_PlanRequests :
    let last := fun (s : State) (k : Nat) =>
      if k = 0 then 0 else (s.plan.pendingPlan.zones.cells[k - 1]?.map (·.lastSlot)).getD 0
    let good := fun (s : State) (k : Nat) => 1 ≤ last s k ∧ last s k ≤ 59 ∧ last s (k - 1) < last s k
    (adoptingNow.plan.adoption = .adopting ∧ Admitted .station .adoptPlan [] adoptingNow ∧
        Admitted .station .setZoneCount [1#8] adoptingNow ∧ Admitted .station .discardPending [] adoptingNow) ∧
      (State.reset.plan.adoption = .editable ∧ Admitted .station .discardPending [] State.reset) ∧
      (tenZones.plan.pendingPlan.zoneCount ≤ 10 ∧ Admitted .station .adoptPlan [] tenZones ∧
        ∀ k < 10, 1 ≤ k → good tenZones k) ∧
      (tenZonesBad.plan.pendingPlan.zoneCount ≤ 10 ∧ Admitted .station .adoptPlan [] tenZonesBad ∧
        ¬good tenZonesBad 9 ∧ ∀ j < 9, 1 ≤ j → good tenZonesBad j) := by decide +kernel

/-- Whether a slot's move reaches the pending plan's travel timeout at the copy. -/
abbrev expiresAtCopy (s : State) (i : SlotIdx) : Bool :=
  match (valveOf s i).state with
  | .moving start => decide (start + s.plan.pendingPlan.travelTimeout ≤ s.elapsed)
  | .atRest => false
  | .stuck => false

theorem test_hyp_AdoptionCompletesAtRoundEvents_copy :
    let s := at_ 45 (valved (.moving 0) adoptingNow)
    s.plan.adoption = .adopting ∧ expiresAtCopy s (slot 1) = true ∧ expiresAtCopy s (slot 2) = false ∧
      expiresAtCopy (at_ 44 s) (slot 1) = false ∧ s.proc.state ≠ .settling := by decide +kernel

theorem test_hyp_AdoptionCompletesAtRoundEvents :
    let s := at_ 30 { adoptingNow with rounds := { State.reset.rounds with requests := 1, missed := true } }
    s.plan.adoption = .adopting ∧ s.rounds.nextExpiry = some 30 ∧ 30 ≤ s.elapsed ∧ Admitted .station .runRound [] s ∧
      0 < s.rounds.requests ∧ Admitted .safety .release [] s ∧ s.rounds.missed = true ∧
      s.rounds.allocator = .startup ∧ (alloc .held s).rounds.allocator = .held := by decide +kernel

/-- Slot 1 in a lifecycle. -/
def living (life : Lifecycle) (s : State) : State :=
  setRoster (slot 1) { s.plan.roster.get (slot 1) with lifecycle := life } s

/-- The override key line active. -/
def keyed (s : State) : State := { s with gas := { s.gas with keyActive := true } }

/-- Slot 1 the purge slot. -/
def purging : State := { ranked with proc := { idleProcedure with state := .purging, purgeSlot := some (slot 1), purgeExpiry := some 70 } }

theorem test_hyp_LifecycleRequests :
    let s := State.reset
    (Admitted .crew .commissionSlot [1#8, 0#8, 0#8] s ∧ slotOf (u8 [1#8, 0#8, 0#8] 0) = some (slot 1) ∧
        lifecycleOf s (slot 1) = .vacant ∧ Admitted .crew .commissionSlot [60#8, 0x21#8, 0x4E#8] s) ∧
      (Admitted .crew .commissionSlot [1#8, 1#8, 0#8] served ∧ lifecycleOf served (slot 1) ≠ .vacant) ∧
      (Admitted .crew .retireSlot [1#8] s ∧ lifecycleOf s (slot 1) ≠ .active) ∧
      (Admitted .crew .retireSlot [1#8] (testing .suspended) ∧ lifecycleOf (testing .suspended) (slot 1) = .active ∧
        inTestSet (testing .suspended) (slot 1) = true) ∧
      (Admitted .crew .retireSlot [1#8] purging ∧ isPurgeSlot purging (slot 1) = true) ∧
      (Admitted .crew .retireSlot [1#8] served ∧ lifecycleOf served (slot 1) = .active ∧
        inTestSet served (slot 1) = false ∧ isPurgeSlot served (slot 1) = false) ∧
      (Admitted .crew .reclaimSlot [1#8] s ∧ lifecycleOf s (slot 1) ≠ .retired) ∧
      (Admitted .crew .reclaimSlot [1#8] (living .retired s) ∧ lifecycleOf (living .retired s) (slot 1) = .retired ∧
        (living .retired s).gas.keyActive = false) ∧
      ((keyed (living .retired s)).gas.keyActive = true ∧ Admitted .crew .reclaimSlot [1#8] (keyed (living .retired s))) := by
  decide +kernel

theorem test_hyp_RoundSettings :
    let s := State.reset
    Admitted .station .setCapacity (leBytes 4 1200000) s ∧ Admitted .station .setCapacity (leBytes 4 1200001) s ∧
      u32 (leBytes 4 4999) 0 < served.rounds.capacity ∧ Admitted .station .setCapacity (leBytes 4 4999) served ∧
      (Admitted .station .setRoundMode [0#8, 4#8, 0#8] s ∧ u8 [0#8, 4#8, 0#8] 0 = 0) ∧
      (Admitted .station .setRoundMode [1#8, 0x59#8, 2#8] s ∧ u8 [1#8, 0x59#8, 2#8] 0 = 1) ∧
      (Admitted .station .setRoundMode [2#8, 30#8, 0#8] s ∧ 1 < u8 [2#8, 30#8, 0#8] 0) := by decide +kernel

theorem test_hyp_RoundEventCommands :
    ((at_ 30 State.reset).rounds.nextExpiry = some 30 ∧ 30 ≤ (at_ 30 State.reset).elapsed) ∧
      (at_ 29 State.reset).elapsed < 30 ∧
      (after (.setRoundMode .station [1#8, 30#8, 0#8]) State.reset).rounds.nextExpiry = none ∧
      State.reset.rounds.requests = 0 ∧ State.reset.rounds.requestsAhead = 0 ∧
      (requestRound State.reset).rounds.requests = 0 + 1 ∧ Admitted .station .runRound [] State.reset ∧
      ((requestRoundAhead State.reset).rounds.requestsAhead = 0 + 1 ∧
        (requestRoundAhead State.reset).rounds.requests = 0 + 1) := by
  decide +kernel

theorem test_hyp_RoundEventOutcome :
    (served.plan.adoption = .editable ∧ running served = true) ∧
      (State.reset.plan.adoption = .editable ∧ running State.reset = false) ∧
      (((allocate (at_ 171 served)).entries.get (slot 1)).map (·.standing) = some (.closed .stale) ∧
        (at_ 171 served).rounds.staleMarks.get (slot 1) = false) ∧
      ((allocate (at_ 170 served)).entries.get (slot 1)).map (·.standing) = some .ranked ∧
      ((allocate served).entries.get (slot 2) = none ∧
        ∀ i, ((allocate served).entries.get i).map (·.standing) ≠ some (.closed .stale)) := by decide +kernel

theorem test_hyp_AllocatorRequests :
    let s := State.reset
    (Admitted .safety .hold [] served ∧ served.rounds.allocator = .running) ∧
      (Admitted .safety .hold [] s ∧ s.rounds.allocator ≠ .running) ∧
      (Admitted .safety .releaseShutIn [] (alloc (.shutIn .gasBand) s) ∧
        (alloc (.shutIn .gasBand) s).rounds.allocator.isShutIn = true) ∧
      (Admitted .safety .releaseShutIn [] s ∧ s.rounds.allocator.isShutIn = false) ∧
      (Admitted .safety .release [] s ∧ s.rounds.allocator = .startup ∧ s.rounds.missed = false) ∧
      (Admitted .safety .release [] (alloc .held (markMissed s)) ∧ (alloc .held (markMissed s)).rounds.allocator = .held ∧
        (alloc .held (markMissed s)).rounds.missed = true) ∧
      (Admitted .safety .release [] served ∧ served.rounds.allocator = .running) ∧
      (Admitted .safety .release [] (alloc (.shutIn .commanded) s) ∧
        (alloc (.shutIn .commanded) s).rounds.allocator.isShutIn = true) := by decide +kernel

theorem test_hyp_EnteringShutIn :
    let s := State.reset
    (Admitted .safety .shutIn [] s ∧ s.rounds.allocator.isShutIn = false) ∧
      (Admitted .safety .shutIn [] (alloc (.shutIn .gasBand) s) ∧
        (alloc (.shutIn .gasBand) s).rounds.allocator.isShutIn = true) ∧
      (requestGasBand s).rounds.gasBandRequests = 0 + 1 ∧
      (requestGasBand (alloc (.shutIn .commanded) s)).rounds.gasBandRequests = 0 + 1 ∧
      (inService served (slot 1) = true ∧ (valveOf served (slot 1)).isStuck = false) ∧
      (inService (valved .stuck served) (slot 1) = true ∧ (valveOf (valved .stuck served) (slot 1)).isStuck = true) ∧
      inService s (slot 1) = false := by decide +kernel

/-- Slot 1 with its head SILENT. -/
def silenced (s : State) : State := setHead (slot 1) (some { state := .silent, misses := 3 }) s

theorem test_hyp_RecordedStandings :
    lifecycleOf State.reset (slot 1) = .vacant ∧ lifecycleOf (living .retired State.reset) (slot 1) = .retired ∧
      (inService (silenced served) (slot 1) = true ∧ headSilent (silenced served) (slot 1) = true) ∧
      (valveOf (valved .stuck served) (slot 1)).isStuck = true ∧ isPurgeSlot purging (slot 1) = true ∧
      (inService (living .retiring served) (slot 1) = true ∧
        ((valveOf (living .retiring served) (slot 1)).isStuck || headSilent (living .retiring served) (slot 1) ||
          isPurgeSlot (living .retiring served) (slot 1)) = false ∧
        closedReason (living .retiring served) (slot 1) = some .retiring) ∧
      closedReason (at_ 171 served) (slot 1) = some .stale ∧
      (inService served (slot 1) = true ∧
        ((valveOf served (slot 1)).isStuck || headSilent served (slot 1) || isPurgeSlot served (slot 1)) = false ∧
        closedReason served (slot 1) = none ∧ (allocate served).order = [] ++ slot 1 :: []) := by decide +kernel

/-- Slot 1 served in a zone whose trip line is LATCHED. -/
def trippedSlot : State :=
  setLine 2 { state := .latched, contactClosed := true, inputActive := true }
    (withPlan (fun p => { p with zones := p.zones.set 0 { defaultZone 6 with tripLine := some 2 } }) served)

theorem test_hyp_RecordedStandings_reasons :
    let lock := fun s : State => { s with gas := { s.gas with slotLocks := s.gas.slotLocks.set (slot 1) true } }
    let manual := setRoster (slot 1) { served.plan.roster.get (slot 1) with mode := .manual 50 } (lock served)
    (lifecycleOf served (slot 1) ≠ .retiring ∧ closedReason (lock served) (slot 1) = some .locked) ∧
      ((manual.plan.roster.get (slot 1)).mode = .manual 50 ∧ (keyed manual).gas.keyActive = true ∧
        closedReason manual (slot 1) = some .locked ∧ closedReason (keyed manual) (slot 1) = none) ∧
      closedReason (testing .settling) (slot 1) = some .inTest ∧
      (readingOf (setRecord (slot 1) (some emptyRecord) served) (·.methane) (slot 1) = none ∧
        closedReason (setRecord (slot 1) (some emptyRecord) served) (slot 1) = some .noReading) ∧
      (closedReason (at_ 170 served) (slot 1) = none ∧ closedReason (at_ 171 served) (slot 1) = some .stale) ∧
      (lifecycleOf trippedSlot (slot 1) ≠ .retiring ∧ closedReason trippedSlot (slot 1) = some .tripped) ∧
      (hasReadings (lock (setRecord (slot 1) (some emptyRecord) served)) (slot 1) = false ∧
        closedByLock (lock (setRecord (slot 1) (some emptyRecord) served)) (slot 1) = true) ∧
      (hasReadings (setRecord (slot 1) (some emptyRecord) trippedSlot) (slot 1) = false ∧
        closedByLock (setRecord (slot 1) (some emptyRecord) trippedSlot) (slot 1) = false ∧
        tripped (setRecord (slot 1) (some emptyRecord) trippedSlot) (slot 1) = true) := by
  decide +kernel

theorem test_hyp_AllocationLaws :
    ∃ e, (allocate served).entries.get (slot 1) = some e ∧ e.standing = .ranked ∧ e.target = 100 ∧
      (allocate (at_ 171 served)).entries.get (slot 1) =
        some { standing := .closed .stale, target := 0, flow := 0, grant := none, place := none } :=
  ⟨{ standing := .ranked, target := 100, flow := 4000, grant := some 4000, place := some 1 }, by decide +kernel, rfl,
    rfl, by decide +kernel⟩

theorem test_hyp_UrgentClose :
    let sel := fun i : SlotIdx => i == slot 1
    sel (slot 2) = false ∧ sel (slot 1) = true ∧
      (inService served (slot 1) = true ∧ (valveOf served (slot 1)).isStuck = false) ∧
      (inService (valved .stuck served) (slot 1) = true ∧ (valveOf (valved .stuck served) (slot 1)).isStuck = true) ∧
      inService State.reset (slot 1) = false := by decide +kernel

theorem test_hyp_HandedTargets :
    let hands := fun i : SlotIdx =>
      if i = slot 1 then some 40 else if i = slot 2 then some 0 else if i = slot 3 then some 30 else none
    let s := setValve (slot 3) (restedAt 30) (setValve (slot 2) (restedAt 30) served)
    hands (slot 4) = none ∧ (hands (slot 1) = some 40 ∧ (valveOf s (slot 1)).commanded < 40) ∧
      (hands (slot 2) = some 0 ∧ 0 < (valveOf s (slot 2)).commanded) ∧
      (hands (slot 3) = some 30 ∧ 30 = (valveOf s (slot 3)).commanded) := by decide +kernel

/-- An opening entry of slot 1 in the queue of its zone. -/
def queued (s : State) : State :=
  { s with
    motion :=
      { s.motion with queues := s.motion.queues.set 0 [{ slot := slot 1, kind := .opening 1 1, position := 10 }] } }

theorem test_hyp_IssueLaw :
    nextIssue (queued served) 0 = some { slot := slot 1, kind := .opening 1 1, position := 10 } ∧
      ((queued served).plan.active.zones.get 0).stepping.limit = some 1 ∧
      ∀ e ∈ (queued served).motion.queues.get 0, e.slot ≠ slot 2 := by decide +kernel

theorem test_hyp_TravelTimeout :
    let s := valved (.moving 15) served
    (valveOf s (slot 1)).state = .moving 15 ∧ 15 + s.plan.active.travelTimeout ≤ s.elapsed ∧
      inTestSet s (slot 1) = false ∧ (at_ 59 s).elapsed < 15 + s.plan.active.travelTimeout ∧
      (let t := valved (.moving 15) (testing .settling)
       (valveOf t (slot 1)).state = .moving 15 ∧ 15 + t.plan.active.travelTimeout ≤ t.elapsed ∧
         t.proc.state = .settling ∧ inTestSet t (slot 1) = true) := by decide +kernel

theorem test_hyp_ClearValveFault :
    let s := valved .stuck served
    let silent := { s with motion := { s.motion with valves := s.motion.valves.set (slot 1) { restedValve with state := .stuck } } }
    (Admitted .crew .clearValveFault [1#8] served ∧ slotOf (u8 [1#8] 0) = some (slot 1) ∧
        (valveOf served (slot 1)).state ≠ .stuck) ∧
      (Admitted .crew .clearValveFault [1#8] s ∧ (valveOf s (slot 1)).state = .stuck ∧ closesOnClear s (slot 1) = false) ∧
      (valveOf s (slot 1)).reported = none ∧
      (valveOf (setValve (slot 1) { valveOf silent (slot 1) with reported := some 100 } s) (slot 1)).reported = some 100 ∧
      (alloc .startup s).rounds.allocator = .startup ∧ (alloc (.shutIn .gasBand) s).rounds.allocator.isShutIn = true ∧
      lifecycleOf (living .retiring s) (slot 1) = .retiring ∧ locked (setSlotLock (slot 1) true s) (slot 1) = true ∧
      (inTestSet (valved .stuck (testing .settling)) (slot 1) = true ∧
        (valved .stuck (testing .settling)).proc.state = .settling) := by decide +kernel

theorem test_hyp_ManualMode :
    slotOf (u8 [1#8, 101#8] 0) = some (slot 1) ∧ slotOf (u8 [1#8] 0) = some (slot 1) ∧
      (Admitted .crew .setManual [1#8, 100#8] State.reset ∧ ¬lifecycleOf State.reset (slot 1) = .active) ∧
      (Admitted .crew .setManual [1#8, 0#8] (testing .gathering) ∧ lifecycleOf (testing .gathering) (slot 1) = .active ∧
        inTestSet (testing .gathering) (slot 1) = true) ∧
      (Admitted .crew .setManual [1#8, 0#8] (valved .stuck served) ∧ (valveOf (valved .stuck served) (slot 1)).isStuck = true) ∧
      (Admitted .crew .setManual [1#8, 0#8] (setSlotLock (slot 1) true served) ∧
        locked (setSlotLock (slot 1) true served) (slot 1) = true ∧ served.gas.keyActive = false) ∧
      (Admitted .crew .setManual [1#8, 101#8] served ∧ lifecycleOf served (slot 1) = .active ∧
        inTestSet served (slot 1) = false ∧ isPurgeSlot served (slot 1) = false ∧
        (valveOf served (slot 1)).isStuck = false ∧ locked served (slot 1) = false) ∧
      (Admitted .crew .clearManual [1#8] served ∧ Admitted .crew .clearManual [1#8] State.reset) := by decide +kernel

theorem test_hyp_SetLimits :
    Admitted .safety .setLimits (List.replicate 8 0#8) State.reset ∧
      Admitted .safety .setLimits (List.replicate 8 0xFF#8) State.reset := by decide +kernel

theorem test_hyp_Locks :
    (slotOf (u8 [60#8] 0) = some (slot 60) ∧ Admitted .safety .lockSlot [60#8] State.reset ∧
        Admitted .safety .unlockSlot [60#8] State.reset) ∧
      (zoneOfNum (u8 [10#8] 0) = some 9 ∧ Admitted .safety .lockZone [10#8] State.reset ∧
        Admitted .safety .unlockZone [10#8] State.reset) ∧
      (∃ t, exec .pollTimeout State.reset = .next t) ∧ Instr.pollTimeout ≠ .reset :=
  ⟨by decide +kernel, by decide +kernel, ⟨_, rfl⟩, by decide⟩

theorem test_hyp_ManifoldDelivery :
    let frame := fun c o : Nat => replyFrom 0 c o 1000 100 0 false noFault
    let taken := fun c o : Nat => (replyTo .manifold (frame c o)).map fun r => (r.c, r.o, r.faults.methane || r.faults.oxygen)
    let s := polled .manifold State.reset
    let l := s.gas.limits
    s.scanner.poll = some (pollOf s .manifold) ∧ (pollOf s .manifold).head = .manifold ∧
      taken 250 40 = some (250, 40, false) ∧ taken 249 41 = some (249, 41, false) ∧
      (l.aFloor = 250 ∧ l.aO2 = 40 ∧ l.alarmCount = 3) ∧ s.gas.alarm = .clear ∧
      (s.gas.outCount + 1 < l.alarmCount ∧ l.alarmCount ≤ 2 + 1) ∧
      (raiseAlarm .readings s).gas.alarm = .raised .readings ∧
      (taken 199 0 = some (199, 0, false) ∧ taken 200 0 = some (200, 0, false)) ∧ s.gas.bandCount = 0 ∧
      ((replyTo .manifold (replyFrom 0 100 20 0 0 0 false { noFault with methane := true })).map fun r => r.faults.methane) =
        some true := by decide +kernel

theorem test_hyp_ManifoldWatchExpiry :
    let s := at_ 60 State.reset
    (s.gas.watch = .armed ∧ s.gas.watchRef + 60 ≤ s.elapsed ∧ s.gas.alarm = .clear) ∧
      (raiseAlarm .readings s).gas.alarm.isRaised = true ∧
      (at_ 59 s).elapsed < (at_ 59 s).gas.watchRef + 60 ∧ (after .manifoldWatchExpiry s).gas.watch = .spent := by
  decide +kernel

theorem test_hyp_OverrideKey :
    let s := State.reset
    s.gas.keySwitchClosed = s.gas.keyActive ∧
      ((after (.keyInputChange true) s).gas.keySwitchClosed = true ∧ (after (.keyInputChange true) s).gas.keyActive = false) ∧
      ((keyed s).gas.keySwitchClosed = false ∧ (keyed s).gas.keyActive = true) := by decide +kernel

/-- A trip line's state, contact and debounced input put on line 4. -/
def lined (st : LineState) (contact input : Bool) : State :=
  setLine 3 { state := st, contactClosed := contact, inputActive := input } State.reset

theorem test_hyp_TripLines :
    let ln := fun s : State => s.trips.lines.get 3
    (ln State.reset).contactClosed = (ln State.reset).inputActive ∧
      ((ln (lined .latched false true)).contactClosed = false ∧ (ln (lined .latched false true)).inputActive = true) ∧
      ((ln (lined .disarmed true false)).contactClosed = true ∧ (ln (lined .disarmed true false)).inputActive = false ∧
        (ln (lined .disarmed true false)).state ≠ .armed) ∧
      ((ln (lined .armed true false)).contactClosed = true ∧ (ln (lined .armed true false)).inputActive = false ∧
        (ln (lined .armed true false)).state = .armed) := by decide +kernel

theorem test_hyp_ReArmAndDisarm :
    let s := State.reset
    (u8 [1#8] 0 = (0 : LineIdx).val + 1 ∧ u8 [4#8] 0 = (3 : LineIdx).val + 1) ∧ Admitted .safety .disarm [1#8] s ∧
      (Admitted .safety .reArm [4#8] (lined .latched false false) ∧
        ((lined .latched false false).trips.lines.get 3).inputActive = false) ∧
      (Admitted .safety .reArm [4#8] (lined .latched true true) ∧
        ((lined .latched true true).trips.lines.get 3).inputActive = true ∧
        ((lined .latched true true).trips.lines.get 3).state ≠ .armed) ∧
      (u8 [0#8] 0 = 0 ∧ Admitted .safety .disarm [0#8] s ∧ Admitted .safety .reArm [0#8] s) ∧
      (4 < u8 [5#8] 0 ∧ Admitted .safety .disarm [5#8] s ∧ Admitted .safety .reArm [5#8] s) := by decide +kernel

/-- A clock value. -/
def clock (weekday hour minute second : Nat) : Clock :=
  { weekday := weekday, hour := hour, minute := minute, second := second }

theorem test_hyp_DrainageClock :
    (clock 7 23 59 59).inRange = true ∧ (clock 1 0 0 58).inRange = true ∧ (clock 1 0 58 59).inRange = true ∧
      (clock 1 22 59 59).inRange = true ∧ (clock 6 23 59 59).inRange = true ∧
      Admitted .station .setClock [7#8, 23#8, 59#8, 59#8] State.reset ∧
      Admitted .station .setClock [0#8, 0#8, 0#8, 0#8] State.reset ∧
      Admitted .station .setClock [8#8, 24#8, 60#8, 60#8] State.reset := by decide +kernel

/-- A Set Window payload: entry, weekday, hour, minute, zone set; the duration 0 and the ceiling 101 clamp. -/
def windowPayload (n w h m z : Nat) : Payload :=
  [byteOf n, 1#8, byteOf w, byteOf h, byteOf m, 0#8] ++ leBytes 2 z ++ [101#8]

/-- The fields that Set Window refuses lie in their ranges. -/
abbrev windowOk (p : Payload) : Prop :=
  u8 p 1 ≤ 1 ∧ (u8 p 2 = 255 ∨ (1 ≤ u8 p 2 ∧ u8 p 2 ≤ 7)) ∧ (u8 p 3 = 255 ∨ u8 p 3 ≤ 23) ∧ u8 p 4 ≤ 59 ∧
    u16 p 6 < 1024

theorem test_hyp_SetWindow :
    (Admitted .station .setWindow (windowPayload 1 7 23 59 1023) State.reset ∧ u8 (windowPayload 1 7 23 59 1023) 0 = (0 : WindowIdx).val + 1 ∧
        windowOk (windowPayload 1 7 23 59 1023) ∧ (State.reset.trips.windows.get 0).remaining = none) ∧
      (Admitted .station .setWindow (windowPayload 1 255 255 0 0) (after .minuteRollover example631) ∧
        ((after .minuteRollover example631).trips.windows.get 0).remaining.isSome = true ∧ windowOk (windowPayload 8 255 255 0 0)) ∧
      (u8 (windowPayload 8 1 0 0 0) 0 = (7 : WindowIdx).val + 1 ∧ u8 (windowPayload 0 1 0 0 0) 0 = 0 ∧
        8 < u8 (windowPayload 9 1 0 0 0) 0) := by decide +kernel

theorem test_hyp_SetWindow_refused :
    (Admitted .station .setWindow (windowPayload 1 0 0 0 0) State.reset ∧ ¬windowOk (windowPayload 1 0 0 0 0)) ∧
      ¬windowOk (windowPayload 1 8 0 0 0) ∧ ¬windowOk (windowPayload 1 1 24 0 0) ∧ ¬windowOk (windowPayload 1 1 0 60 0) ∧ ¬windowOk (windowPayload 1 1 0 0 1024) := by decide +kernel

theorem test_hyp_MinuteRollover :
    let c := clock 5 22 0 0
    let v := fun m : Option Nat => { example631.trips.windows.get 0 with remaining := m }
    State.reset.trips.rolloversDue = [] ∧ example631.trips.rolloversDue = c :: [] ∧
      ((v none).entry.enabled = true ∧ (v none).entry.minute = c.minute ∧ (v none).entry.hour = some c.hour ∧
        (v none).entry.weekday = none ∧ (v none).remaining = none) ∧
      (¬(State.reset.trips.windows.get 1).entry.enabled = true ∧ (v (some 2)).remaining = some 2 ∧ 1 < 2) ∧
      (v (some 1)).remaining = some 1 := by decide +kernel

theorem test_hyp_GatheringATest :
    let unfit := State.reset
    let full := { testing .gathering with proc := { (testing .gathering).proc with testSet := (List.finRange 8).map fun n => { slot := ⟨n.val + 10, by omega⟩, sealedMark := false, startPressure := none } } }
    let joinable := { testing .gathering with proc := { (testing .gathering).proc with testSet := (List.finRange 7).map fun n => { slot := ⟨n.val + 10, by omega⟩, sealedMark := false, startPressure := none } } }
    (Admitted .crew .beginTest [1#8, 59#8, 0#8] (testing .settling) ∧ slotOf (u8 [1#8, 59#8, 0#8] 0) = some (slot 1) ∧
        (testing .settling).proc.state ≠ .idle) ∧
      (Admitted .crew .beginTest [1#8, 60#8, 0#8] unfit ∧ unfit.proc.state = .idle ∧ fit unfit (slot 1) = false) ∧
      (Admitted .crew .beginTest [1#8, 9#8, 7#8] ranked ∧ ranked.proc.state = .idle ∧ fit ranked (slot 1) = true) ∧
      (Admitted .crew .addTestSlot [1#8] ranked ∧ ranked.proc.state ≠ .gathering) ∧
      (Admitted .crew .addTestSlot [1#8] (testing .gathering) ∧ (testing .gathering).proc.state = .gathering ∧
        inTestSet (testing .gathering) (slot 1) = true) ∧
      (Admitted .crew .addTestSlot [1#8] full ∧ inTestSet full (slot 1) = false ∧ 8 ≤ full.proc.testSet.length) ∧
      (Admitted .crew .addTestSlot [2#8] joinable ∧ slotOf (u8 [2#8] 0) = some (slot 2) ∧
        inTestSet joinable (slot 2) = false ∧ joinable.proc.testSet.length < 8 ∧ fit joinable (slot 2) = false) ∧
      (Admitted .crew .addTestSlot [1#8] joinable ∧ inTestSet joinable (slot 1) = false ∧
        fit joinable (slot 1) = true) := by decide +kernel

theorem test_hyp_SettlingBegins :
    let s := { testing .gathering with proc := { (testing .gathering).proc with gatherExpiry := some 60 } }
    let stuck := fun (s : State) (t : TestPlace) => (valveOf s t.slot).isStuck && inService s t.slot
    (s.proc.state = .gathering ∧ s.proc.gatherExpiry = some 60 ∧ 60 ≤ s.elapsed ∧ (at_ 59 s).elapsed < 60) ∧
      (inTestSet s (slot 1) = true ∧ s.proc.testSet.all (stuck s) = false ∧ inService s (slot 1) = true ∧
        (valveOf s (slot 1)).isStuck = false ∧ inService (living .retired s) (slot 1) = false) ∧
      (valved .stuck s).proc.testSet.all (stuck (valved .stuck s)) = true ∧
      (Admitted .crew .resumeTest [] (testing .suspended) ∧ (testing .suspended).proc.state = .suspended) ∧
      (Admitted .crew .resumeTest [] (testing .suspendedPurging) ∧
        (testing .suspendedPurging).proc.state = .suspendedPurging) ∧
      (Admitted .crew .resumeTest [] ranked ∧ ranked.proc.state ≠ .suspended ∧
        ranked.proc.state ≠ .suspendedPurging) := by decide +kernel

theorem test_hyp_SealingAndMeasuring :
    let s := testing .settling
    let two := { s with proc := { s.proc with testSet := s.proc.testSet ++ [{ slot := slot 2, sealedMark := false, startPressure := none }] } }
    let marked := fun s : State => s.proc.testSet.map fun t => if t.slot == slot 1 then { t with sealedMark := true } else t
    let m := { testing .measuring with proc := { (testing .measuring).proc with measureStart := some 50 } }
    (s.proc.state = .settling ∧ inTestSet s (slot 1) = true) ∧ (marked two).all (·.sealedMark) = false ∧
      ((marked s).all (·.sealedMark) = true ∧ ((marked s).filter fun t => !headSilent s t.slot) ≠ []) ∧
      ((marked (silenced s)).filter fun t => !headSilent (silenced s) t.slot) = [] ∧
      s.proc.duration = some 60 ∧
      (m.proc.state = .measuring ∧ inTestSet m (slot 1) = true ∧ m.proc.measureStart = some 50 ∧
        (m.proc.testSet.filter fun t => !(t.slot == slot 1)) = []) ∧
      (two.proc.testSet.filter fun t => !(t.slot == slot 1)) ≠ [] := by decide +kernel

theorem test_hyp_SealingAndMeasuring_stuck :
    let s := testing .settling
    let two := fun mark : Bool =>
      { s with proc := { s.proc with testSet := s.proc.testSet ++ [{ slot := slot 2, sealedMark := mark, startPressure := none }] } }
    let left := fun s : State => s.proc.testSet.filter fun t => !(t.slot == slot 1)
    let heard := fun s : State => (left s).filter fun t => !headSilent s t.slot
    let quiet := setHead (slot 2) (some { state := .silent, misses := 3 }) (two true)
    ((two false).proc.state = .settling ∧ inTestSet (two false) (slot 1) = true ∧
        (left (two false)).all (·.sealedMark) = false) ∧
      ((left (two true)).all (·.sealedMark) = true ∧ heard (two true) ≠ []) ∧
      ((left s).all (·.sealedMark) = true ∧ heard s = []) ∧
      ((left quiet).all (·.sealedMark) = true ∧ heard quiet = []) ∧
      ((testing .measuring).proc.state = .measuring ∧ (valveOf (testing .measuring) (slot 1)).isStuck = false) := by
  decide +kernel

theorem test_hyp_ProcedureEndings :
    let m := { testing .measuring with proc := { (testing .measuring).proc with measureStart := some 0, measureExpiry := some 60 } }
    let p := at_ 70 purging
    let sp := { testing .suspendedPurging with proc := { (testing .suspendedPurging).proc with purgeExpiry := some 60 } }
    (m.proc.state = .measuring ∧ m.proc.measureExpiry = some 60 ∧ 60 ≤ m.elapsed ∧ m.proc.duration = some 60 ∧
        m.proc.measureStart = some 0) ∧
      (p.proc.state = .purging ∧ p.proc.purgeExpiry = some 70 ∧ 70 ≤ p.elapsed) ∧
      (sp.proc.state = .suspendedPurging ∧ sp.proc.purgeExpiry = some 60 ∧ 60 ≤ sp.elapsed) ∧
      (Admitted .safety .abortProcedure [] ranked ∧ ranked.proc.state = .idle) ∧
      (Admitted .crew .abortProcedure [] (testing .settling) ∧ Admitted .crew .abortProcedure [] m) ∧
      (Admitted .crew .abortProcedure [] p ∧
        p.proc.state ∈ [ProcState.gathering, .suspended, .suspendedPurging, .purging]) ∧
      (Admitted .station .suspendTest [] (testing .settling) ∧ Admitted .crew .suspendTest [] m) ∧
      (Admitted .station .suspendTest [] ranked ∧ ranked.proc.state ≠ .settling ∧ ranked.proc.state ≠ .measuring) := by
  decide +kernel

theorem test_hyp_BeginPurge :
    let s := testing .suspended
    let other := serve (slot 2) 4000 (readings 500 10 1000 9000 0 50) restedValve s
    slotOf (u8 [1#8, 9#8, 0#8] 0) = some (slot 1) ∧
      (Admitted .crew .beginPurge [1#8, 9#8, 0#8] (testing .gathering) ∧
        ¬((testing .gathering).proc.state = .idle ∨ (testing .gathering).proc.state = .suspended)) ∧
      (Admitted .crew .beginPurge [1#8, 9#8, 0#8] State.reset ∧ State.reset.proc.state = .idle ∧
        ¬(lifecycleOf State.reset (slot 1) = .active ∧ headResponding State.reset (slot 1) = true)) ∧
      (Admitted .crew .beginPurge [1#8, 9#8, 0#8] s ∧ s.proc.state = .suspended ∧ lifecycleOf s (slot 1) = .active ∧
        headResponding s (slot 1) = true ∧ inTestSet s (slot 1) = true) ∧
      (Admitted .crew .beginPurge [1#8, 45#8, 1#8] ranked ∧ ranked.proc.state = .idle ∧
        lifecycleOf ranked (slot 1) = .active ∧ headResponding ranked (slot 1) = true) ∧
      (Admitted .crew .beginPurge [2#8, 45#8, 1#8] other ∧ other.proc.state = .suspended ∧
        lifecycleOf other (slot 2) = .active ∧ headResponding other (slot 2) = true ∧
        inTestSet other (slot 2) = false) := by decide +kernel

theorem test_hyp_ResultRecords :
    let r := bareResult .aborted (newPlace (slot 1))
    (List.replicate 15 r).length < 16 ∧ (List.replicate 16 r).length = 16 ∧ 60 ≤ 60 := by decide +kernel

theorem test_hyp_ResultRecords_ascending :
    let ts := [newPlace (slot 7), newPlace (slot 3)]
    let us := [newPlace (slot 3), newPlace (slot 7)]
    us.Perm ts ∧ (us.Pairwise fun a b => a.slot < b.slot) ∧ ascending ts = us :=
  ⟨.swap _ _ _, by decide +kernel, by decide +kernel⟩

theorem test_hyp_Misses :
    let s := polled (.slot (slot 14)) example211
    let good := replyFrom 14 1 1 1 1 1 false noFault
    let h := fun (st : HeadState) (n : Nat) => setHead (slot 14) (some { state := st, misses := n }) s
    s.scanner.poll = some (pollOf s (.slot (slot 14))) ∧ (good.take 16).length ≠ 17 ∧
      (good.set 0 0#8).head? ≠ some 0x5A#8 ∧
      numAt (good.set 16 0#8) 15 2 ≠ (crc16 (((good.set 16 0#8).drop 1).take 14)).toNat ∧
      numAt (replyFrom 15 1 1 1 1 1 false noFault) 1 1 ≠ (pollOf s (.slot (slot 14))).head.address ∧
      (clearPoll s).scanner.poll = none ∧
      (h .responding 1).scanner.heads.get (slot 14) = some { state := .responding, misses := 1 } ∧
      ((h .responding 2).scanner.heads.get (slot 14) = some { state := .responding, misses := 2 } ∧
        s.proc.state ≠ .measuring) ∧
      (h .silent 3).scanner.heads.get (slot 14) = some { state := .silent, misses := 3 } := by decide +kernel

/-- The manifold head after a number of misses. -/
def manifoldMissed (st : HeadState) (n : Nat) : State :=
  { State.reset with scanner := { State.reset.scanner with manifoldHead := { state := st, misses := n } } }

theorem test_hyp_Misses_manifold_and_measuring :
    let h := fun s : State => s.scanner.manifoldHead
    let m := setHead (slot 1) (some { state := .responding, misses := 2 }) (testing .measuring)
    ((h (manifoldMissed .responding 1)).state = .responding ∧ (h (manifoldMissed .responding 1)).misses < 2) ∧
      ((h (manifoldMissed .responding 2)).state = .responding ∧ (h (manifoldMissed .responding 2)).misses = 2) ∧
      (h (manifoldMissed .silent 3)).state = .silent ∧
      (m.scanner.heads.get (slot 1) = some { state := .responding, misses := 2 } ∧ m.proc.state = .measuring ∧
        inTestSet m (slot 1) = true ∧ inTestSet m (slot 2) = false) := by decide +kernel

theorem test_hyp_PollCycle :
    let s := { served with scanner := { served.scanner with remaining := [.slot (slot 2), .slot (slot 1)] } }
    (s.scanner.remaining = [slot 2].map .slot ++ .slot (slot 1) :: ([] : List SlotIdx).map .slot ∧
        (∀ j ∈ [slot 2], inService s j = false) ∧ inService s (slot 1) = true) ∧
      State.reset.scanner.remaining = ([] : List SlotIdx).map .slot := by decide +kernel

theorem test_hyp_SlotReplyTaken :
    let s := polled (.slot (slot 14)) example211
    let frame := replyFrom 14 1001 251 20001 20001 101 false noFault
    let low := replyFrom 14 1 1 1 1 2 false noFault
    let stuck := replyFrom 14 1 1 1 1 3 false { noFault with valve := true }
    let moved := setValve (slot 14) { restedAt 3 with state := .moving 90 } s
    let dying :=
      setValve (slot 14) restedValve (setRoster (slot 14) { s.plan.roster.get (slot 14) with lifecycle := .retiring } s)
    (s.scanner.poll = some (pollOf s (.slot (slot 14))) ∧ (pollOf s (.slot (slot 14))).head = .slot (slot 14) ∧
        (replyTo (.slot (slot 14)) frame).isSome = true ∧ lifecycleOf s (slot 14) = .active ∧
        (s.scanner.records.get (slot 14)).isSome = true ∧ s.motion.queues.get (zoneAt s (slot 14)) = []) ∧
      (MotionLaw s ∧ MotionLaw dying) ∧
      ((replyTo (.slot (slot 14)) stuck).map (fun r => (r.position, r.faults.valve)) = some (3, true) ∧
        (valveOf s (slot 14)).isStuck = false ∧ s.proc.state ≠ .settling ∧
        lifecycleOf dying (slot 14) = .retiring ∧ (dying.scanner.records.get (slot 14)).isSome = true) ∧
      ((valveOf moved (slot 14)).isMoving = true ∧ 3 ≤ (valveOf moved (slot 14)).commanded + 2 ∧
        (valveOf moved (slot 14)).commanded ≤ 3 + 2) ∧
      ((replyTo (.slot (slot 14)) low).map (·.position) = some 2 ∧
        ∀ k, ∀ e ∈ dying.motion.queues.get k, e.slot ≠ slot 14) := by
  refine ⟨by decide +kernel, ⟨?_, ?_⟩, by decide +kernel, by decide +kernel, by decide +kernel⟩ <;>
    (unfold MotionLaw QueueLaw; decide +kernel)

/-- R148: a frame whose sync byte came before the last byte of a reply is discarded also when it is complete
only after that byte: the request it would spell is not taken. -/
theorem test_R148_late_frame_is_discarded :
    let body := frameBody 0x16#8 [1#8, 0#8, 0#8, 0#8]
    after (.frameDuringReply .station body (crc16 body)) (after (.replySent .station) busyLink) =
      after (.replySent .station) busyLink := by decide +kernel

/-- A reply that completes the move of slot 1 with the valve fault flag set, the slot's next step queued. -/
def faultedCompletion : State :=
  after (.fieldReplyTaken (replyFrom 1 500 10 1000 9000 1 false { noFault with valve := true }))
    (polled (.slot (slot 1)) (setValve (slot 1) { restedAt 0 with state := .moving 0, target := 50 } (queued served)))

/-- R78 in its order: step 2 issues the queued step, so that the commanded position is the entry's, and step 3
then makes the valve STUCK. -/
theorem test_R78_issue_precedes_fault :
    valveOf faultedCompletion (slot 1) = { target := 50, commanded := 10, reported := some 1, state := .stuck } ∧
      faultedCompletion.motion.queues.get 0 = [] := by decide +kernel

theorem test_hyp_StoreWrite :
    let w := after (.storePlan .station []) State.reset
    Admitted .station .storePlan [] State.reset ∧ State.reset.store.state = .idle ∧
      (w.store.state = .writing (captureImage State.reset) (crc32 (captureImage State.reset).bytes) 3 ∧
        3 ≤ (at_ 3 w).elapsed ∧ (at_ 2 w).elapsed < 3) ∧
      Admitted .station .storePlan [] (after (.replySent .station) w) := by
  refine ⟨by decide +kernel, rfl, ⟨rfl, by decide, by decide⟩, by decide +kernel⟩

theorem test_hyp_ImageRoundTrip : (captureImage served).inRange = true := by decide +kernel

/-- Bytes stored with the CRC-32 they carry, marked valid. -/
def storedAs (bytes : List Byte) : StoredImage :=
  { contents := bytes, crcBytes := leBytes 4 (crc32 bytes).toNat, markedValid := true }

theorem storedAs_crcBytes (bytes : List Byte) :
    (storedAs bytes).crcBytes = leBytes 4 (crc32 (storedAs bytes).contents).toNat := rfl

theorem test_hyp_ResetLeaves :
    let img := captureImage served
    let stored := ({ served with store := { served.store with stored := storedAs img.bytes } } : State).store.stored
    (stored.markedValid = true ∧ stored.crcBytes = leBytes 4 (crc32 stored.contents).toNat ∧ img.inRange = true ∧
        stored.contents = img.bytes) ∧
      State.reset.store.stored.markedValid = false :=
  ⟨⟨rfl, storedAs_crcBytes _, by decide +kernel, rfl⟩, rfl⟩

/-- A part with a command waiting. -/
def waiting : State := { ranked with pending := [.reset, .pollTimeout] }

theorem test_hyp_StepKeeps : step waiting = .next (after .reset { ranked with pending := [.pollTimeout] }) := rfl

theorem test_hyp_StepKeepsRanges :
    LinesFollow waiting ∧ GasInRange waiting ∧ RoundsInRange waiting ∧ TripsLaw waiting := by
  refine ⟨fun l => by cases l <;> decide, ?_, ?_, ?_⟩
  · unfold GasInRange; decide +kernel
  · unfold RoundsInRange; decide +kernel
  · unfold TripsLaw; decide +kernel

theorem test_hyp_StepKeepsPlanTable : PlansInRange waiting ∧ RosterLaw waiting ∧ ScannerLaw waiting := by
  refine ⟨?_, ?_, ?_⟩
  · unfold PlansInRange; decide +kernel
  · unfold RosterLaw; decide +kernel
  · unfold ScannerLaw; decide +kernel

theorem test_hyp_StepKeepsMotion : MotionLaw waiting := by
  unfold MotionLaw QueueLaw
  decide +kernel

theorem test_hyp_StepKeepsManifoldClosed : ClosedLaw (alloc .startup waiting) := by
  unfold ClosedLaw
  decide +kernel

theorem test_hyp_StepKeepsProcedure : ProcedureLaw (testing .settling) := by
  unfold ProcedureLaw
  decide +kernel

theorem test_hyp_StepKeepsStoreAndTimes :
    StoreLaw (after (.storePlan .station []) State.reset) ∧ TimesPast waiting := by
  refine ⟨⟨rfl, rfl⟩, ?_⟩
  unfold TimesPast
  decide +kernel

end Sys2Proof.Tests
end

section
/-! PROOFS. The statements of 01_the_borehole_plan.md: the adoption state before every edit, the validation
of a plan, the roster's lifecycle, and the migration of the motion queues. -/

namespace Sys2Proof.Machine

/-! ## A request answered by its owner

What the owning block does is stated over any state; these lemmas carry it to the whole command, through the
frame that was taken first. -/

/-- An admitted request that its owner decides without reading the receivers. -/
theorem exec_of_owner {l : Link} {c : Command} {p : Payload} {s : State} (t : State) (a : Answer)
    (h : Admitted l c p s) (ho : owner l p c (discarded l s) = (discarded l t, a)) :
    exec (requestInstr l p c) s = .next (answered l (codeOf c) a.result a.data t) := by
  rw [exec_of_admitted s l p c h, ho, answered_discarded]

/-- An admitted request that its owner refuses changes its link alone. -/
theorem exec_of_refusal {l : Link} {c : Command} {p : Payload} {s : State} {r : Result} {data : List Byte}
    (h : Admitted l c p s) (ho : owner l p c (discarded l s) = (discarded l s, refusal r data)) :
    exec (requestInstr l p c) s = .next (answered l (codeOf c) r data s) :=
  exec_of_owner s (refusal r data) h ho

theorem Admitted.numbersOk {l : Link} {c : Command} {p : Payload} {s : State} (h : Admitted l c p s) :
    numbersOk c p = true :=
  ((checkRequest_eq_none l p c).1 h.2).2.2

/-! ## The adoption state (R2) -/

theorem whenEditable_of_editable {s : State} (h : s.plan.adoption = .editable) (edit : State × Answer) :
    whenEditable s edit = edit := by
  rw [whenEditable, h]

theorem whenEditable_of_adopting {s : State} (h : s.plan.adoption = .adopting) (edit : State × Answer) :
    whenEditable s edit = (s, refusal .adoptPending) := by
  rw [whenEditable, h]

/-- R2: while ADOPTING the Plan Table refuses the four edits, Adopt Plan and Discard Pending. The numbers are
checked first, so that Edit Zone and Edit Slot Entry reach the adoption state. -/
theorem owner_of_adopting (l : Link) (p : Payload) {c : Command} {s : State} (h : s.plan.adoption = .adopting)
    (hn : numbersOk c p = true)
    (hc : c ∈ [Command.editPlanParameters, .setZoneCount, .editZone, .editSlotEntry, .adoptPlan, .discardPending]) :
    owner l p c s = (s, refusal .adoptPending) := by
  simp only [List.mem_cons, List.not_mem_nil, or_false] at hc
  rcases hc with rfl | rfl | rfl | rfl | rfl | rfl
  case inr.inr.inl =>
    obtain ⟨k, hk⟩ := Option.isSome_iff_exists.1 (show (zoneOfNum (u8 p 0)).isSome = true from hn)
    simp only [owner, editZone, hk, whenEditable_of_adopting h]
  case inr.inr.inr.inl =>
    obtain ⟨i, hi⟩ := Option.isSome_iff_exists.1 (show (slotOf (u8 p 0)).isSome = true from hn)
    simp only [owner, editSlotEntry, hi, whenEditable_of_adopting h]
  all_goals exact whenEditable_of_adopting h _

/-! ## The validation of a plan (R10) -/

/-- The stored last slot of zone `k`, counted from 1, with 0 before the first zone. -/
def Plan.storedLast (pl : Plan) (k : Nat) : Nat :=
  if k = 0 then 0 else (pl.zones.cells[k - 1]?.map (·.lastSlot)).getD 0

/-- R10's condition on zone `k`: its stored last slot lies in 1..59 and above the one before. -/
def Plan.LastSlotOk (pl : Plan) (k : Nat) : Prop :=
  1 ≤ pl.storedLast k ∧ pl.storedLast k ≤ 59 ∧ pl.storedLast (k - 1) < pl.storedLast k

/-- R5: below Z the boundary of a zone is the stored last slot. -/
theorem Plan.bound_eq_storedLast {pl : Plan} {k : Nat} (hz : pl.zoneCount ≤ 10) (hk : k < pl.zoneCount) :
    pl.bound k = pl.storedLast k := by
  by_cases h0 : k = 0
  · simp [bound, storedLast, h0]
  · have hcell : k - 1 < pl.zones.cells.length := by rw [pl.zones.size]; omega
    have hin : k - 1 < 10 ∧ k < pl.zoneCount := by omega
    simp [bound, storedLast, h0, hin, hcell, Table.get]

/-- The boundary test of a zone below Z is R10's condition on the stored last slots. -/
theorem Plan.boundaryOk_iff {pl : Plan} {k : Nat} (hz : pl.zoneCount ≤ 10) (hk : k < pl.zoneCount) :
    pl.boundaryOk k = true ↔ pl.LastSlotOk k := by
  have hprev : k - 1 < pl.zoneCount := by omega
  simp [boundaryOk, LastSlotOk, bound_eq_storedLast hz hk, bound_eq_storedLast hz hprev, and_assoc]

theorem Plan.firstOffending_eq_none {pl : Plan} :
    pl.firstOffending = none ↔ ∀ k, 1 ≤ k → k < pl.zoneCount → pl.boundaryOk k = true := by
  simp only [firstOffending, List.find?_eq_none, List.mem_map, List.mem_range, Bool.not_eq_true',
    Bool.not_eq_false]
  constructor
  · exact fun h k h1 hk => h k ⟨k - 1, by omega, by omega⟩
  · rintro h k ⟨j, hj, rfl⟩
    exact h (j + 1) (by omega) (by omega)

/-- The zone that the validation names is the lowest offending one. -/
theorem Plan.firstOffending_eq_some {pl : Plan} {k : Nat} (h1 : 1 ≤ k) (hk : k < pl.zoneCount)
    (hbad : pl.boundaryOk k = false) (hlow : ∀ j, 1 ≤ j → j < k → pl.boundaryOk j = true) :
    pl.firstOffending = some k := by
  have hfind : (List.range (pl.zoneCount - 1)).find? (fun j => !pl.boundaryOk (j + 1)) = some (k - 1) := by
    rw [List.find?_range_eq_some]
    refine ⟨?_, ?_, fun j hj => ?_⟩
    · rw [Nat.sub_add_cancel h1, hbad]; rfl
    · rw [List.mem_range]; omega
    · rw [hlow (j + 1) (by omega) (by omega)]; rfl
  rw [firstOffending, List.find?_map]
  show Option.map _ (List.find? (fun j => !pl.boundaryOk (j + 1)) _) = _
  rw [hfind, Option.map_some, Nat.sub_add_cancel h1]

/-! ## Adopt Plan and Discard Pending (R9, R10) -/

theorem discardPending_of_editable {s : State} (h : s.plan.adoption = .editable) :
    discardPending s = (setPending s.plan.active s, accepted false []) :=
  whenEditable_of_editable h _

theorem adoptPlan_of_valid {s : State} (h : s.plan.adoption = .editable)
    (hv : s.plan.pendingPlan.firstOffending = none) :
    adoptPlan s = ({ s with plan := { s.plan with adoption := .adopting } }, accepted false []) := by
  rw [adoptPlan, whenEditable_of_editable h, hv]

theorem adoptPlan_of_offending {s : State} {k : Nat} (h : s.plan.adoption = .editable)
    (hv : s.plan.pendingPlan.firstOffending = some k) :
    adoptPlan s = (s, refusal .planInvalid [byteOf k]) := by
  rw [adoptPlan, whenEditable_of_editable h, hv]

/-- R2: a request of the pending plan, admitted while ADOPTING, is refused. -/
theorem exec_of_adopting {l : Link} {p : Payload} {c : Command} {s : State} (h : s.plan.adoption = .adopting)
    (hc : c ∈ [Command.editPlanParameters, .setZoneCount, .editZone, .editSlotEntry, .adoptPlan, .discardPending])
    (ha : Admitted l c p s) :
    exec (requestInstr l p c) s = .next (answered l (codeOf c) .adoptPending [] s) :=
  exec_of_refusal ha (owner_of_adopting l p (s := discarded l s) h ha.numbersOk hc)

/-- R9, with the pending plan afterwards the active plan whole. -/
theorem exec_discardPending_of_editable {l : Link} {p : Payload} {s : State}
    (ha : Admitted l .discardPending p s) (h : s.plan.adoption = .editable) :
    exec (.discardPending l p) s = .next (answered l 0x15#8 .ok [] (setPending s.plan.active s)) :=
  exec_of_owner (c := .discardPending) (setPending s.plan.active s) (accepted false []) ha
    (discardPending_of_editable (s := discarded l s) h)

/-- R10 on a plan that passes. -/
theorem exec_adoptPlan_of_valid {l : Link} {p : Payload} {s : State} (ha : Admitted l .adoptPlan p s)
    (hz : s.plan.pendingPlan.zoneCount ≤ 10) (h : s.plan.adoption = .editable)
    (hok : ∀ k, 1 ≤ k → k < s.plan.pendingPlan.zoneCount → s.plan.pendingPlan.LastSlotOk k) :
    exec (.adoptPlan l p) s =
      .next (answered l 0x14#8 .ok [] { s with plan := { s.plan with adoption := .adopting } }) := by
  have hv : s.plan.pendingPlan.firstOffending = none :=
    Plan.firstOffending_eq_none.2 fun k h1 hk => (Plan.boundaryOk_iff hz hk).2 (hok k h1 hk)
  exact exec_of_owner (c := .adoptPlan) { s with plan := { s.plan with adoption := .adopting } } (accepted false []) ha
    (adoptPlan_of_valid (s := discarded l s) h hv)

/-- R10 on a plan that fails, first at zone `k`. -/
theorem exec_adoptPlan_of_offending {l : Link} {p : Payload} {s : State} {k : Nat}
    (ha : Admitted l .adoptPlan p s) (hz : s.plan.pendingPlan.zoneCount ≤ 10) (h : s.plan.adoption = .editable)
    (h1 : 1 ≤ k) (hk : k < s.plan.pendingPlan.zoneCount) (hbad : ¬s.plan.pendingPlan.LastSlotOk k)
    (hlow : ∀ j, 1 ≤ j → j < k → s.plan.pendingPlan.LastSlotOk j) :
    exec (.adoptPlan l p) s = .next (answered l 0x14#8 .planInvalid [byteOf k] s) := by
  have hv : s.plan.pendingPlan.firstOffending = some k :=
    Plan.firstOffending_eq_some h1 hk
      (Bool.eq_false_iff.2 fun ok => hbad ((Plan.boundaryOk_iff hz hk).1 ok))
      fun j hj1 hjk => (Plan.boundaryOk_iff hz (hjk.trans hk)).2 (hlow j hj1 hjk)
  exact exec_of_refusal (c := .adoptPlan) ha (adoptPlan_of_offending (s := discarded l s) h hv)

/-- Settles O15: the refusals of R2 command by command, then R9 and R10, the validation's boundaries read as
the stored last slots below Z. -/
theorem planRequests : Obligations.PlanRequests := by
  refine ⟨?adopting, ?discard, ?adopt⟩
  case adopting => exact fun l p s h c hc ha => exec_of_adopting h hc ha
  case discard =>
    exact fun l p s ha =>
      ⟨exec_discardPending_of_editable ha, fun h => exec_of_adopting (c := .discardPending) h (by decide) ha⟩
  case adopt =>
    exact fun l p s ha hz =>
      ⟨exec_adoptPlan_of_valid ha hz,
        fun k h h1 hk hbad hlow => exec_adoptPlan_of_offending ha hz h h1 hk hbad hlow,
        fun h => exec_of_adopting (c := .adoptPlan) h (by decide) ha⟩

/-! ## Queue migration (R13) -/

/-- R72: entries put into the queue order stand in it. -/
theorem sortQueue_pairwise (q : List QueueEntry) : (sortQueue q).Pairwise fun a b => entryBefore a b = true := by
  have total : Std.Total fun a b : QueueEntry => entryBefore a b = true := ⟨entryBefore_total⟩
  have trans : IsTrans QueueEntry fun a b => entryBefore a b = true := ⟨fun _ _ _ => entryBefore_trans⟩
  exact List.pairwise_insertionSort _ q

@[simp] theorem migrateQueues_get (s : State) (k : ZoneIdx) :
    (migrateQueues s).motion.queues.get k =
      sortQueue ((allEntries s).filter fun e => zoneAt s e.slot == k) :=
  Table.get_tabulate _ k

/-- Settles O17: the queue of each zone is the sorted selection of its entries, and sorting permutes. -/
theorem queueMigration : Obligations.QueueMigration := by
  intro s k
  rw [migrateQueues_get]
  exact ⟨sortQueue_perm _, sortQueue_pairwise _, rfl, rfl⟩

/-! ## The slot roster (R15, R16, R18) -/

/-- A state after a slot has been commissioned with a yield estimate (R15). -/
def commissioned (i : SlotIdx) (seed : Nat) (s : State) : State :=
  { setRecord i (some emptyRecord) (setHead i (some freshHead) (setValve i restedValve (setRoster i
      { lifecycle := .active, mode := .auto, yieldEst := some seed, commissioned := some s.elapsed } s))) with
    rounds := { s.rounds with staleMarks := s.rounds.staleMarks.set i false } }

section Owner

variable {p : Payload} {i : SlotIdx} {s : State} (hp : slotOf (u8 p 0) = some i)

include hp

theorem commissionSlot_of_vacant (h : lifecycleOf s i = .vacant) :
    commissionSlot p s =
      (commissioned i (clampTo 1 20000 (u16 p 1)) s,
        accepted (clampTo 1 20000 (u16 p 1) != u16 p 1)
          (leBytes 1 (slotNum i) ++ leBytes 2 (clampTo 1 20000 (u16 p 1)))) := by
  simp only [commissionSlot, hp, h, beq_self_eq_true, if_true]
  rfl

theorem commissionSlot_of_not_vacant (h : lifecycleOf s i ≠ .vacant) :
    commissionSlot p s = (s, refusal .slotState) := by
  simp [commissionSlot, hp, h]

theorem retireSlot_of_not_active (h : lifecycleOf s i ≠ .active) :
    retireSlot p s = (s, refusal .slotState) := by
  simp [retireSlot, hp, h]

theorem retireSlot_of_inProcedure (h : lifecycleOf s i = .active)
    (hproc : inTestSet s i = true ∨ isPurgeSlot s i = true) :
    retireSlot p s = (s, refusal .slotInProcedure) := by
  simp [retireSlot, hp, h, hproc]

theorem retireSlot_of_free (h : lifecycleOf s i = .active) (htest : inTestSet s i = false)
    (hpurge : isPurgeSlot s i = false) :
    retireSlot p s =
      (closeSlot i (setRoster i { s.plan.roster.get i with lifecycle := .retiring, mode := .auto } s),
        accepted false []) := by
  simp [retireSlot, hp, h, htest, hpurge]

theorem reclaimSlot_of_not_retired (h : lifecycleOf s i ≠ .retired) :
    reclaimSlot p s = (s, refusal .slotState) := by
  simp [reclaimSlot, hp, h]

theorem reclaimSlot_without_key (h : lifecycleOf s i = .retired) (hkey : s.gas.keyActive = false) :
    reclaimSlot p s = (s, refusal .keyRequired) := by
  simp [reclaimSlot, hp, h, hkey]

theorem reclaimSlot_with_key (h : lifecycleOf s i = .retired) (hkey : s.gas.keyActive = true) :
    reclaimSlot p s =
      (setValve i restedValve (setRoster i { s.plan.roster.get i with lifecycle := .vacant } s),
        accepted false []) := by
  simp [reclaimSlot, hp, h, hkey]

end Owner

/-- R15 in full: an admitted Commission Slot of a VACANT slot. -/
theorem exec_commissionSlot_of_vacant {l : Link} {p : Payload} {s : State} {i : SlotIdx} {seed : Nat}
    (ha : Admitted l .commissionSlot p s) (hp : slotOf (u8 p 0) = some i) (hseed : clampTo 1 20000 (u16 p 1) = seed)
    (h : lifecycleOf s i = .vacant) :
    exec (.commissionSlot l p) s =
      .next
        (answered l 0x30#8 (okUnless (seed ≠ u16 p 1)) (leBytes 1 (slotNum i) ++ leBytes 2 seed)
          (commissioned i seed s)) := by
  subst hseed
  have clamped : decide (clampTo 1 20000 (u16 p 1) ≠ u16 p 1) = (clampTo 1 20000 (u16 p 1) != u16 p 1) := by
    rw [Bool.eq_iff_iff]; simp
  rw [clamped]
  exact exec_of_owner (c := .commissionSlot) (commissioned i _ s) (accepted _ _) ha
    (commissionSlot_of_vacant (s := discarded l s) hp h)

/-- R16 in full: an admitted Retire Slot of an ACTIVE slot in no procedure. The frame's
effect on the link stays within the close, for `issueZone` does not commute with `discarded` by definition. -/
theorem exec_retireSlot_of_free {l : Link} {p : Payload} {s : State} {i : SlotIdx}
    (ha : Admitted l .retireSlot p s) (hp : slotOf (u8 p 0) = some i) (h : lifecycleOf s i = .active)
    (htest : inTestSet s i = false) (hpurge : isPurgeSlot s i = false) :
    exec (.retireSlot l p) s =
      .next
        (answered l 0x31#8 .ok []
          (closeSlot i
            (setRoster i { s.plan.roster.get i with lifecycle := .retiring, mode := .auto } (discarded l s)))) := by
  have howner : owner l p .retireSlot (discarded l s) = _ :=
    retireSlot_of_free (s := discarded l s) hp h htest hpurge
  have hexec := exec_of_admitted s l p .retireSlot ha
  rwa [howner] at hexec

/-- R18 in full: an admitted Reclaim Slot of a RETIRED slot under an active key line. -/
theorem exec_reclaimSlot_with_key {l : Link} {p : Payload} {s : State} {i : SlotIdx}
    (ha : Admitted l .reclaimSlot p s) (hp : slotOf (u8 p 0) = some i) (h : lifecycleOf s i = .retired)
    (hkey : s.gas.keyActive = true) :
    exec (.reclaimSlot l p) s =
      .next
        (answered l 0x32#8 .ok []
          (setValve i restedValve (setRoster i { s.plan.roster.get i with lifecycle := .vacant } s))) :=
  exec_of_owner (c := .reclaimSlot)
    (setValve i restedValve (setRoster i { s.plan.roster.get i with lifecycle := .vacant } s)) (accepted false []) ha
    (reclaimSlot_with_key (s := discarded l s) hp h hkey)

/-- Settles O18, one law of the owning block for each clause. -/
theorem lifecycleRequests : Obligations.LifecycleRequests := by
  refine ⟨?commission, ?retire, ?reclaim⟩
  case commission =>
    exact fun l p s i ha hp =>
      ⟨exec_commissionSlot_of_vacant ha hp rfl,
        fun h => exec_of_refusal (c := .commissionSlot) ha (commissionSlot_of_not_vacant (s := discarded l s) hp h)⟩
  case retire =>
    exact fun l p s i ha hp =>
      ⟨fun h => exec_of_refusal (c := .retireSlot) ha (retireSlot_of_not_active (s := discarded l s) hp h),
        fun h hproc =>
          exec_of_refusal (c := .retireSlot) ha (retireSlot_of_inProcedure (s := discarded l s) hp h hproc),
        exec_retireSlot_of_free ha hp⟩
  case reclaim =>
    exact fun l p s i ha hp =>
      ⟨fun h => exec_of_refusal (c := .reclaimSlot) ha (reclaimSlot_of_not_retired (s := discarded l s) hp h),
        fun h hkey =>
          exec_of_refusal (c := .reclaimSlot) ha (reclaimSlot_without_key (s := discarded l s) hp h hkey),
        exec_reclaimSlot_with_key ha hp⟩

end Sys2Proof.Machine
end

section
/-! PROOFS. The statement of 02_field_line_and_borehole_readings.md: the cycle's list passes over the slots
out of service, and the first entry left, or a new cycle, is polled. -/

namespace Sys2Proof.Machine

section PollCycle

variable {s : State} {skipped : List SlotIdx}

/-! ## The next poll of the cycle (R23) -/

@[simp] theorem nextPoll_nil (s : State) : nextPoll [] s = startCycle s := rfl

theorem nextPoll_slot_of_inService {i : SlotIdx} (rest : List HeadAddr) (h : inService s i = true) :
    nextPoll (.slot i :: rest) s = sendPoll (.slot i) rest s := by
  rw [nextPoll, if_pos h]

theorem nextPoll_slot_of_not_inService {i : SlotIdx} (rest : List HeadAddr) (h : inService s i = false) :
    nextPoll (.slot i :: rest) s = nextPoll rest s := by
  rw [nextPoll, h, if_neg Bool.false_ne_true]

/-- A run of slots out of service is passed over, whatever the list holds after them. -/
theorem nextPoll_skipped_append (rest : List HeadAddr) (hskip : ∀ j ∈ skipped, inService s j = false) :
    nextPoll (skipped.map .slot ++ rest) s = nextPoll rest s := by
  induction skipped with
  | nil => rfl
  | cons j skipped ih =>
    obtain ⟨hj, hskipped⟩ := List.forall_mem_cons.1 hskip
    rw [List.map_cons, List.cons_append, nextPoll_slot_of_not_inService _ hj, ih hskipped]

theorem sendNext_of_inService {i : SlotIdx} {rest : List HeadAddr}
    (hlist : s.scanner.remaining = skipped.map .slot ++ .slot i :: rest)
    (hskip : ∀ j ∈ skipped, inService s j = false) (hi : inService s i = true) :
    sendNext s = sendPoll (.slot i) rest s := by
  rw [sendNext, hlist, nextPoll_skipped_append _ hskip, nextPoll_slot_of_inService _ hi]

theorem sendNext_of_none_inService (hlist : s.scanner.remaining = skipped.map .slot)
    (hskip : ∀ j ∈ skipped, inService s j = false) : sendNext s = startCycle s := by
  rw [sendNext, hlist, ← List.append_nil (skipped.map _), nextPoll_skipped_append _ hskip, nextPoll_nil]

end PollCycle

/-- Settles O49: the entries out of service are passed over, and `pollOf` writes the orders of R24. -/
theorem pollCycle : Obligations.PollCycle := by
  refine fun s => ⟨?nextSlot, ?newCycle⟩
  case nextSlot => exact fun _ _ _ hlist hskip hi => sendNext_of_inService hlist hskip hi
  case newCycle => exact fun _ hlist hskip => sendNext_of_none_inService hlist hskip

end Sys2Proof.Machine
end

section
/-! PROOFS. The statement of 03_allocation_rounds.md on the allocation record: what each pass can do to a
slot's grant, flow and target and to the running sums, and the four laws of R66 from that. -/

namespace Sys2Proof.Machine

/-! ## Pass A (R63) -/

/-- What pass A can grant: to a slot of the order, at most its desired yield and at most what remains. -/
theorem mem_passA {order : List Candidate} {place remaining : Nat} {g : Granted}
    (h : g ∈ passA order place remaining) :
    g.cand ∈ order ∧ g.grant ≤ g.cand.desiredYield ∧ g.grant ≤ remaining := by
  induction order generalizing place remaining with
  | nil => cases h
  | cons a rest ih =>
    rcases List.mem_cons.1 h with rfl | hrest
    · exact ⟨List.mem_cons_self, min_le_left _ _, min_le_right _ _⟩
    · obtain ⟨hcand, hyield, hremaining⟩ := ih hrest
      exact ⟨List.mem_cons_of_mem a hcand, hyield, hremaining.trans (Nat.sub_le _ _)⟩

/-- The grants together are at most what remained before the first. -/
theorem sum_grant_passA_le (order : List Candidate) (place remaining : Nat) :
    ((passA order place remaining).map (·.grant)).sum ≤ remaining := by
  induction order generalizing place remaining with
  | nil => exact Nat.zero_le _
  | cons a rest ih =>
    have hrest := ih (place + 1) (remaining - min a.desiredYield remaining)
    simp only [passA, List.map_cons, List.sum_cons]
    omega

/-! ## The permitted flow and the target (R64, R65) -/

theorem boundBy_le (allowance : Option Nat) (g : Nat) : boundBy allowance g ≤ g := by
  cases allowance with
  | none => exact le_rfl
  | some a => exact min_le_left g a

theorem boundBy_some_le (a g : Nat) : boundBy (some a) g ≤ a := min_le_right g a

section Turn

variable {floor ceiling : Nat} {t : Sums} {g : Granted}

theorem permittedFlow_le_grant : permittedFlow floor ceiling t g ≤ g.grant :=
  (boundBy_le _ _).trans (boundBy_le _ _)

theorem permittedFlow_le_methane {a : Nat} (h : methaneAllowance floor g.cand.c t = some a) :
    permittedFlow floor ceiling t g ≤ a := by
  rw [permittedFlow, h]
  exact (boundBy_le _ _).trans (boundBy_some_le _ _)

theorem permittedFlow_le_oxygen {a : Nat} (h : oxygenAllowance ceiling g.cand.o t = some a) :
    permittedFlow floor ceiling t g ≤ a := by
  rw [permittedFlow, h]
  exact boundBy_some_le _ _

theorem targetFor_zero (a : Candidate) : targetFor a 0 = 0 := by simp [targetFor]

/-- R65: a target is 0 or the rounded-down opening of the permitted flow, at or above the minimum. -/
theorem targetFor_cases (a : Candidate) (allow : Nat) :
    targetFor a allow = 0 ∨ (a.uMin ≤ targetFor a allow ∧ targetFor a allow = allow * 100 / a.estimate) := by
  simp only [targetFor]
  split
  · exact .inl rfl
  · next h => exact .inr ⟨not_lt.1 h, rfl⟩

/-- The flow predicted of a target is at most the flow that the target was computed from. -/
theorem estimate_mul_targetFor_le (a : Candidate) (allow : Nat) : a.estimate * targetFor a allow / 100 ≤ allow := by
  rcases targetFor_cases a allow with h | ⟨-, h⟩
  · simp [h]
  · rw [h]
    exact Nat.div_le_of_le_mul ((Nat.mul_div_le _ _).trans_eq (Nat.mul_comm _ _))

/-- A flow within the desired yield gives an opening within the desired opening. -/
theorem targetFor_le_desired {a : Candidate} {allow : Nat} (h : allow ≤ a.desiredYield) :
    targetFor a allow ≤ a.desired := by
  rcases targetFor_cases a allow with h0 | ⟨-, hu⟩
  · rw [h0]; exact Nat.zero_le _
  · rw [hu]
    refine Nat.div_le_of_le_mul ?_
    calc allow * 100 ≤ a.estimate * a.desired / 100 * 100 := Nat.mul_le_mul_right 100 h
      _ ≤ a.estimate * a.desired := Nat.div_mul_le_self _ _

/-! ## One turn of pass B -/

theorem allot_flow_le_permittedFlow : (allot floor ceiling t g).flow ≤ permittedFlow floor ceiling t g :=
  estimate_mul_targetFor_le _ _

theorem allot_target_of_permittedFlow (h : permittedFlow floor ceiling t g = 0) :
    (allot floor ceiling t g).target = 0 := by
  rw [allot, h]
  exact targetFor_zero _

/-- The sums after a slot's turn. -/
def sumsAfter (floor ceiling : Nat) (t : Sums) (g : Granted) : Sums :=
  t.add (allot floor ceiling t g).flow g.cand.c g.cand.o

/-- R66.2: a turn keeps M at or above C × F. -/
theorem blend_sumsAfter (h : floor * t.f ≤ t.m) :
    floor * (sumsAfter floor ceiling t g).f ≤ (sumsAfter floor ceiling t g).m := by
  have hflow := allot_flow_le_permittedFlow (floor := floor) (ceiling := ceiling) (t := t) (g := g)
  simp only [sumsAfter, Sums.add]
  generalize (allot floor ceiling t g).flow = y at hflow ⊢
  rw [Nat.mul_add]
  by_cases hc : floor ≤ g.cand.c
  · exact Nat.add_le_add h (Nat.mul_le_mul_right y hc)
  · have hy : y ≤ (t.m - floor * t.f) / (floor - g.cand.c) :=
      hflow.trans (permittedFlow_le_methane (by rw [methaneAllowance, if_neg hc, if_pos h]))
    rw [Nat.le_div_iff_mul_le (by omega), Nat.mul_sub, Nat.mul_comm y floor, Nat.mul_comm y g.cand.c] at hy
    omega

/-- R66.3: a turn keeps X at or below O × F. -/
theorem oxygen_sumsAfter (h : t.x ≤ ceiling * t.f) :
    (sumsAfter floor ceiling t g).x ≤ ceiling * (sumsAfter floor ceiling t g).f := by
  have hflow := allot_flow_le_permittedFlow (floor := floor) (ceiling := ceiling) (t := t) (g := g)
  simp only [sumsAfter, Sums.add]
  generalize (allot floor ceiling t g).flow = y at hflow ⊢
  rw [Nat.mul_add]
  by_cases ho : g.cand.o ≤ ceiling
  · exact Nat.add_le_add h (Nat.mul_le_mul_right y ho)
  · have hy : y ≤ (ceiling * t.f - t.x) / (g.cand.o - ceiling) :=
      hflow.trans (permittedFlow_le_oxygen (by rw [oxygenAllowance, if_neg ho, if_pos h]))
    rw [Nat.le_div_iff_mul_le (by omega), Nat.mul_sub, Nat.mul_comm y g.cand.o, Nat.mul_comm y ceiling] at hy
    omega

/-- R64: while M is below C × F, a slot below the floor is given 0. -/
theorem allot_target_of_blend_deficit (h : ¬floor * t.f ≤ t.m) (hc : g.cand.c < floor) :
    (allot floor ceiling t g).target = 0 :=
  allot_target_of_permittedFlow (Nat.le_zero.1 (permittedFlow_le_methane
    (by rw [methaneAllowance, if_neg (by omega), if_neg h])))

/-- R64: while X is above O × F, a slot above the ceiling is given 0. -/
theorem allot_target_of_oxygen_excess (h : ¬t.x ≤ ceiling * t.f) (ho : ceiling < g.cand.o) :
    (allot floor ceiling t g).target = 0 :=
  allot_target_of_permittedFlow (Nat.le_zero.1 (permittedFlow_le_oxygen
    (by rw [oxygenAllowance, if_neg (by omega), if_neg h])))

end Turn

/-! ## Pass B as a whole -/

section PassB

variable {floor ceiling : Nat}

theorem passB_cons (g : Granted) (gs : List Granted) (t : Sums) :
    passB floor ceiling (g :: gs) t =
      (allot floor ceiling t g :: (passB floor ceiling gs (sumsAfter floor ceiling t g)).1,
        (passB floor ceiling gs (sumsAfter floor ceiling t g)).2) := rfl

/-- What pass B allots is each time one granted slot's turn at some sums. -/
theorem mem_passB {gs : List Granted} {t : Sums} {a : Allotted} (h : a ∈ (passB floor ceiling gs t).1) :
    ∃ g ∈ gs, ∃ t', a = allot floor ceiling t' g := by
  induction gs generalizing t with
  | nil => cases h
  | cons g gs ih =>
    rw [passB_cons] at h
    rcases List.mem_cons.1 h with rfl | hrest
    · exact ⟨g, List.mem_cons_self, t, rfl⟩
    · obtain ⟨g', hmem, t', rfl⟩ := ih hrest
      exact ⟨g', List.mem_cons_of_mem g hmem, t', rfl⟩

/-- Pass B adds at most the grants to the predicted flow. -/
theorem passB_sumF_le (gs : List Granted) (t : Sums) :
    (passB floor ceiling gs t).2.f ≤ t.f + (gs.map (·.grant)).sum := by
  induction gs generalizing t with
  | nil => exact Nat.le_add_right _ _
  | cons g gs ih =>
    have hflow : (allot floor ceiling t g).flow ≤ g.grant :=
      allot_flow_le_permittedFlow.trans permittedFlow_le_grant
    rw [passB_cons, List.map_cons, List.sum_cons]
    calc _ ≤ (sumsAfter floor ceiling t g).f + (gs.map (·.grant)).sum := ih _
      _ = t.f + (allot floor ceiling t g).flow + (gs.map (·.grant)).sum := rfl
      _ ≤ _ := by omega

/-- The idea behind R66.2 and R66.3: if a turn keeps a property of the sums, and gives a slot of a certain kind
0 where the property fails, then it holds at the end, or it failed from the start and throughout, and every slot
of that kind was given 0. -/
theorem passB_holds_or_zero {holds : Sums → Prop} {kind : Candidate → Prop}
    (keeps : ∀ t g, holds t → holds (sumsAfter floor ceiling t g))
    (zero : ∀ t g, ¬holds t → kind g.cand → (allot floor ceiling t g).target = 0)
    (gs : List Granted) (t : Sums) :
    holds (passB floor ceiling gs t).2 ∨
      (¬holds t ∧ ∀ a ∈ (passB floor ceiling gs t).1, kind a.granted.cand → a.target = 0) := by
  induction gs generalizing t with
  | nil =>
    by_cases h : holds t
    · exact .inl h
    · exact .inr ⟨h, fun _ ha => nomatch ha⟩
  | cons g gs ih =>
    rw [passB_cons]
    refine (ih (sumsAfter floor ceiling t g)).imp_right fun ⟨hafter, hrest⟩ => ?_
    have hbefore : ¬holds t := fun h => hafter (keeps t g h)
    exact ⟨hbefore, List.forall_mem_cons.2 ⟨zero t g hbefore, hrest⟩⟩

end PassB

/-! ## The desired opening (R61) -/

section Desired

variable (s : State) (i : SlotIdx)

theorem desiredOpening_le_uMax : desiredOpening s i ≤ (s.plan.active.entries.get i).uMax := by
  simp only [desiredOpening]
  cases (s.plan.roster.get i).mode <;> cases s.trips.ceilings.get (zoneAt s i) <;> simp

theorem desiredOpening_le_setpoint {setpoint : Nat} (h : (s.plan.roster.get i).mode = .manual setpoint) :
    desiredOpening s i ≤ setpoint := by
  simp only [desiredOpening, h]
  cases s.trips.ceilings.get (zoneAt s i) <;> simp

theorem desiredOpening_le_ceiling {ceiling : Nat} (h : s.trips.ceilings.get (zoneAt s i) = some ceiling) :
    desiredOpening s i ≤ ceiling := by
  simp only [desiredOpening, h]
  exact min_le_right _ _

end Desired

/-! ## The round's two passes over a state -/

section Round

variable {s : State}

theorem eq_candidate_of_mem_capacityOrder {a : Candidate} (h : a ∈ capacityOrder s) : a = candidate s a.slot := by
  rw [capacityOrder, List.mem_insertionSort, candidates, List.mem_map] at h
  obtain ⟨i, -, rfl⟩ := h
  rfl

/-- What a round allots: to a RANKED slot as the passes see it, from a grant of pass A. -/
theorem mem_allotments {a : Allotted} (h : a ∈ (allotments s).1) :
    ∃ g ∈ grants s, g.cand = candidate s g.cand.slot ∧
      ∃ t, a = allot s.gas.effectiveFloor s.gas.limits.oCeil t g := by
  obtain ⟨g, hmem, t, rfl⟩ := mem_passB h
  rw [List.mem_insertionSort] at hmem
  exact ⟨g, hmem, eq_candidate_of_mem_capacityOrder (mem_passA hmem).1, t, rfl⟩

/-- The grants in pass B's order together are at most what the FIXED slots leave of the capacity. -/
theorem allotments_sumF_le : (allotments s).2.f ≤ (fixedSums s).f + (s.rounds.capacity - (fixedSums s).f) := by
  refine (passB_sumF_le _ _).trans (Nat.add_le_add_left ?_ _)
  rw [((List.perm_insertionSort _ (grants s)).map (·.grant)).sum_eq]
  exact sum_grant_passA_le _ _ _

/-- When the FIXED slots alone take the capacity, every target is 0. -/
theorem allotments_target_of_capacity_exceeded (h : s.rounds.capacity < (fixedSums s).f) :
    ∀ a ∈ (allotments s).1, a.target = 0 := by
  intro a ha
  obtain ⟨g, hg, -, t, rfl⟩ := mem_allotments ha
  obtain ⟨-, -, hremaining⟩ := mem_passA hg
  have hgrant : g.grant ≤ 0 := hremaining.trans_eq (Nat.sub_eq_zero_of_le h.le)
  exact allot_target_of_permittedFlow (Nat.le_zero.1 (permittedFlow_le_grant.trans hgrant))

/-- R65: what a round allots a slot is 0 or lies between its minimum and its desired opening. -/
theorem allotments_target_bounds {a : Allotted} (h : a ∈ (allotments s).1) :
    a.target = 0 ∨ (a.granted.cand.uMin ≤ a.target ∧ a.target ≤ a.granted.cand.desired) := by
  obtain ⟨g, hg, -, t, rfl⟩ := mem_allotments h
  obtain ⟨-, hyield, -⟩ := mem_passA hg
  exact (targetFor_cases g.cand _).imp_right fun ⟨hmin, _⟩ =>
    ⟨hmin, targetFor_le_desired (permittedFlow_le_grant.trans hyield)⟩

/-! ## The record's entries (R67) -/

/-- What an entry of the record can be. -/
theorem allocEntry_cases {allotted : List Allotted} {i : SlotIdx} {e : AllocEntry}
    (h : allocEntry s allotted i = some e) :
    e = { standing := .absent, target := 0, flow := 0, grant := none, place := none } ∨
      e =
        { standing := .fixed, target := (valveOf s i).target, flow := fixedFlow s i, grant := none,
          place := none } ∨
      (∃ r, e = { standing := .closed r, target := 0, flow := 0, grant := none, place := none }) ∨
      ∃ a ∈ allotted, a.granted.cand.slot = i ∧
        e =
          { standing := .ranked, target := a.target, flow := a.flow, grant := some a.granted.grant,
            place := some a.granted.place } := by
  rw [allocEntry] at h
  split at h
  case h_1 => cases h
  case h_2 => exact .inl (Option.some.inj h).symm
  case h_3 => exact .inr (.inl (Option.some.inj h).symm)
  case h_4 r _ => exact .inr (.inr (.inl ⟨r, (Option.some.inj h).symm⟩))
  case h_5 =>
    obtain ⟨a, hfind, rfl⟩ := Option.map_eq_some_iff.1 h
    exact .inr (.inr (.inr ⟨a, List.mem_of_find?_eq_some hfind, by simpa using List.find?_some hfind, rfl⟩))

theorem allocate_entry (i : SlotIdx) : (allocate s).entries.get i = allocEntry s (allotments s).1 i :=
  Table.get_tabulate _ i

variable {i : SlotIdx} {e : AllocEntry} (he : (allocate s).entries.get i = some e)

include he

/-- A RANKED entry's target is what pass B allotted the slot, as the passes see it. -/
theorem exists_allotted_of_ranked (hr : e.standing = .ranked) :
    ∃ a ∈ (allotments s).1, a.granted.cand = candidate s i ∧ a.target = e.target := by
  rw [allocate_entry] at he
  rcases allocEntry_cases he with rfl | rfl | ⟨r, rfl⟩ | ⟨a, ha, rfl, rfl⟩
  case inr.inr.inr =>
    obtain ⟨g, -, hg, t, rfl⟩ := mem_allotments ha
    exact ⟨_, ha, hg, rfl⟩
  all_goals cases hr

theorem target_of_closed {r : ClosedReason} (hr : e.standing = .closed r) : e.target = 0 := by
  rw [allocate_entry] at he
  rcases allocEntry_cases he with rfl | rfl | ⟨r, rfl⟩ | ⟨a, -, -, rfl⟩
  case inr.inr.inl => rfl
  all_goals cases hr

theorem target_of_fixed (hr : e.standing = .fixed) : e.target = (valveOf s i).target := by
  rw [allocate_entry] at he
  rcases allocEntry_cases he with rfl | rfl | ⟨r, rfl⟩ | ⟨a, -, -, rfl⟩
  case inr.inl => rfl
  all_goals cases hr

end Round

/-! ## The laws of R66 -/

section Laws

variable (s : State)

/-- A RANKED slot of the round's record with its target. -/
def RankedAt (i : SlotIdx) (u : Nat) : Prop :=
  ∃ e, (allocate s).entries.get i = some e ∧ e.standing = .ranked ∧ e.target = u

variable {s}

/-- What holds of every slot that pass B allots, with its target, holds of every RANKED slot. -/
theorem RankedAt.of_allotments {i : SlotIdx} {u : Nat} {P : Candidate → Nat → Prop} (h : RankedAt s i u)
    (hall : ∀ a ∈ (allotments s).1, P a.granted.cand a.target) : P (candidate s i) u := by
  obtain ⟨e, he, hr, rfl⟩ := h
  obtain ⟨a, ha, hcand, htarget⟩ := exists_allotted_of_ranked he hr
  exact hcand ▸ htarget ▸ hall a ha

variable (s)

theorem capacityLaw :
    (allocate s).sumF ≤ (allocate s).capacity ∨
      ((allocate s).capacity < (fixedSums s).f ∧ ∀ i u, RankedAt s i u → u = 0) := by
  by_cases h : s.rounds.capacity < (fixedSums s).f
  · exact .inr ⟨h, fun i u hu =>
      hu.of_allotments (P := fun _ v => v = 0) (allotments_target_of_capacity_exceeded h)⟩
  · refine .inl (show (allotments s).2.f ≤ s.rounds.capacity from ?_)
    have hsum := allotments_sumF_le (s := s)
    omega

theorem blendLaw :
    (allocate s).floor * (allocate s).sumF ≤ (allocate s).sumM ∨
      ((fixedSums s).m < (allocate s).floor * (fixedSums s).f ∧
        ∀ i u, RankedAt s i u → readingOr s (·.methane) 0 i < (allocate s).floor → u = 0) := by
  refine (passB_holds_or_zero (holds := fun t => s.gas.effectiveFloor * t.f ≤ t.m)
    (kind := fun a => a.c < s.gas.effectiveFloor) (fun _ _ => blend_sumsAfter)
    (fun _ _ => allot_target_of_blend_deficit) _ (fixedSums s)).imp_right fun ⟨hdeficit, hzero⟩ => ?_
  exact ⟨not_le.1 hdeficit, fun i u hu =>
    hu.of_allotments (P := fun a v => a.c < s.gas.effectiveFloor → v = 0) hzero⟩

theorem oxygenLaw :
    (allocate s).sumX ≤ (allocate s).ceiling * (allocate s).sumF ∨
      ((allocate s).ceiling * (fixedSums s).f < (fixedSums s).x ∧
        ∀ i u, RankedAt s i u → (allocate s).ceiling < readingOr s (·.oxygen) 0 i → u = 0) := by
  refine (passB_holds_or_zero (holds := fun t => t.x ≤ s.gas.limits.oCeil * t.f)
    (kind := fun a => s.gas.limits.oCeil < a.o) (fun _ _ => oxygen_sumsAfter)
    (fun _ _ => allot_target_of_oxygen_excess) _ (fixedSums s)).imp_right fun ⟨hexcess, hzero⟩ => ?_
  exact ⟨not_le.1 hexcess, fun i u hu =>
    hu.of_allotments (P := fun a v => s.gas.limits.oCeil < a.o → v = 0) hzero⟩

variable {s}

theorem RankedAt.bounds {i : SlotIdx} {u : Nat} (h : RankedAt s i u) :
    u = 0 ∨ ((s.plan.active.entries.get i).uMin ≤ u ∧ u ≤ desiredOpening s i) :=
  h.of_allotments (P := fun a v => v = 0 ∨ (a.uMin ≤ v ∧ v ≤ a.desired)) fun _ => allotments_target_bounds

end Laws

/-- Settles O25: pass A keeps the capacity, every turn of pass B keeps the blend and the oxygen, and each entry
of the record is read back to the slot's turn. -/
theorem allocationLaws : Obligations.AllocationLaws := by
  intro s
  refine ⟨capacityLaw s, blendLaw s, oxygenLaw s, ?bounds, ?closed, ?fixed⟩
  case bounds =>
    intro i u hu
    refine (RankedAt.bounds hu).imp_right fun ⟨hmin, hdesired⟩ => ⟨hmin, hdesired, ?_, ?_, ?_⟩
    · exact hdesired.trans (desiredOpening_le_uMax s i)
    · exact fun _ hmode => hdesired.trans (desiredOpening_le_setpoint s i hmode)
    · exact fun _ hceiling => hdesired.trans (desiredOpening_le_ceiling s i hceiling)
  case closed => exact fun i e _ he hr => target_of_closed he hr
  case fixed => exact fun i e he hr => target_of_fixed he hr

end Sys2Proof.Machine
end

section
/-! PROOFS. The statements of 04_valve_motion.md on the valves themselves: what an urgent close does to each
valve, the law of the motion queues at every issue, and manual mode. -/

namespace Sys2Proof.Machine

/-! ## Urgent closes (R81) -/

@[simp] theorem valveOf_urgentClose (sel : SlotIdx → Bool) (s : State) (i : SlotIdx) :
    valveOf (urgentClose sel s) i =
      if sel i then (valveOf s i).urgentClose (lifecycleOf s i) s.elapsed else valveOf s i :=
  Table.get_tabulate _ i

@[simp] theorem urgentClose_queues_get (sel : SlotIdx → Bool) (s : State) (k : ZoneIdx) :
    (urgentClose sel s).motion.queues.get k = (s.motion.queues.get k).filter fun e => !sel e.slot :=
  Table.get_map _ _ k

section ClosedValve

variable {life : Lifecycle} {v : Valve} (now : Nat)

theorem Valve.urgentClose_state_of_stuck (hlife : life.inService = true) (h : v.isStuck = true) :
    (v.urgentClose life now).state = .stuck := by
  simp [urgentClose, hlife, h]

theorem Valve.urgentClose_state_of_free (hlife : life.inService = true) (h : v.isStuck = false) :
    (v.urgentClose life now).state = .moving now := by
  simp [urgentClose, hlife, h]

theorem Valve.urgentClose_state_of_outOfService (hlife : life.inService = false) :
    (v.urgentClose life now).state = .atRest := by
  simp [urgentClose, hlife]

end ClosedValve

/-- Settles O26: a chosen slot's valve record is read off the table of closed valves, the three valve states in
turn, and each queue is filtered. -/
theorem urgentCloseLaw : Obligations.UrgentClose := by
  refine fun sel s => ⟨?others, ?chosen, urgentClose_queues_get sel s, rfl⟩
  case others => exact fun i h => by rw [valveOf_urgentClose, h, if_neg Bool.false_ne_true]
  case chosen =>
    intro i h
    rw [valveOf_urgentClose, if_pos h]
    exact ⟨rfl, rfl, rfl, Valve.urgentClose_state_of_stuck s.elapsed, Valve.urgentClose_state_of_free s.elapsed,
      Valve.urgentClose_state_of_outOfService s.elapsed⟩

/-! ## The choice of the next entry (R75, R76) -/

section Issue

variable {s : State} {k : ZoneIdx} {e : QueueEntry}

theorem mayIssue_iff :
    mayIssue s e = true ↔ (valveOf s e.slot).isMoving = false ∧ (e.kind = .closing ∨ running s = true) := by
  simp [mayIssue]

theorem mayIssue_eq_false_iff :
    mayIssue s e = false ↔ (valveOf s e.slot).isMoving = true ∨ (e.kind ≠ .closing ∧ running s = false) := by
  simp [mayIssue, imp_iff_not_or]

/-- The entry chosen is the first that may be issued: those ahead of it may not. -/
theorem nextIssue_first (h : nextIssue s k = some e) :
    ∃ passed later, s.motion.queues.get k = passed ++ e :: later ∧ ∀ x ∈ passed, mayIssue s x = false := by
  rw [nextIssue, if_pos (nextIssue_some h).1] at h
  obtain ⟨-, passed, later, hqueue, hpassed⟩ := List.find?_eq_some_iff_append.1 h
  exact ⟨passed, later, hqueue, fun x hx => by simpa using hpassed x hx⟩

theorem nextIssue_of_empty (h : s.motion.queues.get k = []) : nextIssue s k = none := by
  simp [nextIssue, h]

/-! ## One issue -/

theorem issueEntry_queues_get (j : ZoneIdx) :
    (issueEntry k e s).motion.queues.get j =
      if j = k then (s.motion.queues.get k).erase e else s.motion.queues.get j :=
  Table.get_set _ k j _

theorem valveOf_issueEntry_self :
    valveOf (issueEntry k e s) e.slot =
      { valveOf s e.slot with commanded := e.position, state := .moving s.elapsed } := by
  rw [valveOf_issueEntry, if_pos rfl]

theorem valveOf_issueEntry_ne {i : SlotIdx} (h : i ≠ e.slot) : valveOf (issueEntry k e s) i = valveOf s i := by
  rw [valveOf_issueEntry, if_neg h]

theorem issueEntry_queue_sublist :
    ((issueEntry k e s).motion.queues.get k).Sublist (s.motion.queues.get k) := by
  rw [issueEntry_queues_get, if_pos rfl]
  exact List.erase_sublist

theorem issueEntry_queue_length (h : nextIssue s k = some e) :
    ((issueEntry k e s).motion.queues.get k).length = (s.motion.queues.get k).length - 1 := by
  rw [issueEntry_queues_get, if_pos rfl]
  exact List.length_erase_of_mem (nextIssue_some h).2.1

/-- Two tests that differ at most at one value count apart by at most the occurrences of that value. -/
theorem countP_le_countP_add_count {p q : SlotIdx → Bool} {a : SlotIdx} (h : ∀ i, i ≠ a → p i = q i)
    (is : List SlotIdx) : is.countP p ≤ is.countP q + is.count a := by
  induction is with
  | nil => exact Nat.le_refl 0
  | cons i is ih =>
    rw [List.countP_cons, List.countP_cons, List.count_cons]
    by_cases hi : i = a
    · simp only [hi, beq_self_eq_true, if_true]
      split <;> omega
    · rw [h i hi]
      omega

/-- The issue of an entry adds at most its own valve to the MOVING count of any zone. -/
theorem movingCount_issueEntry_le (j : ZoneIdx) : movingCount (issueEntry k e s) j ≤ movingCount s j + 1 := by
  have hothers : ∀ i, i ≠ e.slot →
      (zoneAt (issueEntry k e s) i == j && (valveOf (issueEntry k e s) i).isMoving) =
        (zoneAt s i == j && (valveOf s i).isMoving) := fun i hi => by
    rw [valveOf_issueEntry_ne hi]; rfl
  exact (countP_le_countP_add_count hothers allSlots).trans
    (Nat.add_le_add_left (List.nodup_iff_count_le_one.1 (List.nodup_finRange 60) e.slot) _)

theorem steppingAllows_iff :
    steppingAllows s k = true ↔
      ∀ n, (s.plan.active.zones.get k).stepping.limit = some n → movingCount s k < n := by
  rw [steppingAllows]
  cases (s.plan.active.zones.get k).stepping.limit <;> simp

/-- R77: an entry is issued below the stepping count, so the issue does not pass it. -/
theorem movingCount_issueEntry_le_limit {n : Nat} (h : nextIssue s k = some e)
    (hn : (s.plan.active.zones.get k).stepping.limit = some n) : movingCount (issueEntry k e s) k ≤ n :=
  (movingCount_issueEntry_le k).trans (steppingAllows_iff.1 (nextIssue_some h).1 n hn)

/-! ## The issue of a zone's entries until the test fails -/

/-- What holds of no issue, and is carried back over one, holds between the state before the issues and the
state after them. -/
theorem issueLoop_induction {R : State → State → Prop} (refl : ∀ s, R s s)
    (step : ∀ {s t e}, nextIssue s k = some e → R (issueEntry k e s) t → R s t) (n : Nat) (s : State) :
    R s (issueLoop n k s) := by
  induction n generalizing s with
  | zero => exact refl s
  | succ n ih =>
    rw [issueLoop]
    split
    case h_1 => exact refl s
    case h_2 e h => exact step h (ih (issueEntry k e s))

/-- Each issue shortens the queue, so as many issues as it is long end the test. -/
theorem nextIssue_issueLoop {n : Nat} (h : (s.motion.queues.get k).length ≤ n) :
    nextIssue (issueLoop n k s) k = none := by
  induction n generalizing s with
  | zero => exact nextIssue_of_empty (List.eq_nil_of_length_eq_zero (Nat.le_zero.1 h))
  | succ n ih =>
    rw [issueLoop]
    split
    case h_1 hnone => exact hnone
    case h_2 e hsome =>
      apply ih
      rw [issueEntry_queue_length hsome]
      omega

variable (s k)

theorem nextIssue_issueZone : nextIssue (issueZone k s) k = none := nextIssue_issueLoop le_rfl

theorem issueZone_queue_sublist :
    ((issueZone k s).motion.queues.get k).Sublist (s.motion.queues.get k) :=
  issueLoop_induction (R := fun s t => (t.motion.queues.get k).Sublist (s.motion.queues.get k))
    (fun _ => List.Sublist.refl _) (fun _ hrest => hrest.trans issueEntry_queue_sublist) _ s

theorem issueZone_queues_get_ne {j : ZoneIdx} (h : j ≠ k) :
    (issueZone k s).motion.queues.get j = s.motion.queues.get j :=
  issueLoop_induction (k := k) (R := fun s t => t.motion.queues.get j = s.motion.queues.get j) (fun _ => rfl)
    (fun _ hrest => hrest.trans (by rw [issueEntry_queues_get, if_neg h])) _ s

/-- Issuing a zone's entries leaves the valve of every slot that has no entry in its queue. -/
theorem valveOf_issueZone_of_not_queued {i : SlotIdx} (h : ∀ e ∈ s.motion.queues.get k, e.slot ≠ i) :
    valveOf (issueZone k s) i = valveOf s i := by
  refine issueLoop_induction (k := k)
    (R := fun s t => (∀ e ∈ s.motion.queues.get k, e.slot ≠ i) → valveOf t i = valveOf s i)
    (fun _ _ => rfl) ?_ _ s h
  intro s t e hnext hrest hqueue
  rw [hrest fun x hx => hqueue x (issueEntry_queue_sublist.subset hx),
    valveOf_issueEntry_ne (hqueue e (nextIssue_some hnext).2.1).symm]

end Issue

/-- Settles O28: the law of one issue from the test that chose its entry, then the issues of a zone together. -/
theorem issueLaw : Obligations.IssueLaw := by
  refine ⟨?oneIssue, ?untilNone⟩
  case oneIssue =>
    intro s k e h
    obtain ⟨hmoving, hkind⟩ := mayIssue_iff.1 (nextIssue_some h).2.2
    obtain ⟨passed, later, hqueue, hpassed⟩ := nextIssue_first h
    exact ⟨fun n => movingCount_issueEntry_le_limit h, hmoving, hkind,
      ⟨passed, later, hqueue, fun x hx => mayIssue_eq_false_iff.1 (hpassed x hx)⟩,
      by rw [issueEntry_queues_get, if_pos rfl],
      valveOf_issueEntry_self, fun i => valveOf_issueEntry_ne, rfl⟩
  case untilNone =>
    exact fun s k =>
      ⟨nextIssue_issueZone s k, issueZone_queue_sublist s k, fun _ => issueZone_queues_get_ne s k,
        fun _ => valveOf_issueZone_of_not_queued s k⟩

/-! ## Manual mode (R86, R87) -/

/-- The mark of a clamped value, as the replies spell it. -/
theorem bne_eq_decide_ne (m n : Nat) : (m != n) = decide (m ≠ n) := by
  rw [Bool.eq_iff_iff, bne_iff_ne, decide_eq_true_iff]

section Manual

variable {p : Payload} {i : SlotIdx} {s : State} (hp : slotOf (u8 p 0) = some i)

include hp

theorem setManual_of_not_active (h : lifecycleOf s i ≠ .active) : setManual p s = (s, refusal .slotState) := by
  simp [setManual, hp, h]

theorem clearManual_of_not_active (h : lifecycleOf s i ≠ .active) :
    clearManual p s = (s, refusal .slotState) := by
  simp [clearManual, hp, h]

variable (hactive : lifecycleOf s i = .active)

include hactive

theorem clearManual_of_active : clearManual p s = (setMode i .auto s, accepted false []) := by
  simp [clearManual, hp, hactive]

theorem setManual_of_inProcedure (h : inTestSet s i = true ∨ isPurgeSlot s i = true) :
    setManual p s = (s, refusal .slotInProcedure) := by
  simp [setManual, hp, hactive, h]

variable (hfree : ¬(inTestSet s i = true ∨ isPurgeSlot s i = true))

include hfree

theorem setManual_of_stuck (h : (valveOf s i).isStuck = true) : setManual p s = (s, refusal .valveFault) := by
  simp [setManual, hp, hactive, hfree, h]

variable (hsound : ¬(valveOf s i).isStuck = true)

include hsound

theorem setManual_of_locked (h : locked s i = true ∧ s.gas.keyActive = false) :
    setManual p s = (s, refusal .keyRequired) := by
  simp [setManual, hp, hactive, hfree, hsound, h]

theorem setManual_of_allowed (h : ¬(locked s i = true ∧ s.gas.keyActive = false)) :
    setManual p s =
      (setMode i (.manual (min 100 (u8 p 1))) s,
        accepted (min 100 (u8 p 1) ≠ u8 p 1) [byteOf (slotNum i), 1#8, byteOf (min 100 (u8 p 1))]) := by
  have hkey : ¬(locked s i && !s.gas.keyActive) = true := by simpa using h
  simp only [setManual, hp]
  rw [if_neg (by simp [hactive]), if_neg (by simpa using hfree), if_neg hsound, if_neg hkey, bne_eq_decide_ne]

end Manual

/-- Settles O31: the request is admitted, and each clause is one law of the owning block. -/
theorem manualMode : Obligations.ManualMode := by
  refine fun l p s i hp => ⟨fun ha => ?set, fun ha => ?clear⟩
  case set =>
    exact ⟨fun h => exec_of_refusal (c := .setManual) ha (setManual_of_not_active (s := discarded l s) hp h),
      fun hactive h =>
        exec_of_refusal (c := .setManual) ha (setManual_of_inProcedure (s := discarded l s) hp hactive h),
      fun hactive hfree h =>
        exec_of_refusal (c := .setManual) ha (setManual_of_stuck (s := discarded l s) hp hactive hfree h),
      fun hactive hfree hsound h =>
        exec_of_refusal (c := .setManual) ha (setManual_of_locked (s := discarded l s) hp hactive hfree hsound h),
      fun hactive hfree hsound h =>
        exec_of_owner (c := .setManual) (setMode i (.manual (min 100 (u8 p 1))) s) (accepted _ _) ha
          (setManual_of_allowed (s := discarded l s) hp hactive hfree hsound h)⟩
  case clear =>
    exact ⟨fun h => exec_of_refusal (c := .clearManual) ha (clearManual_of_not_active (s := discarded l s) hp h),
      fun h =>
        exec_of_owner (c := .clearManual) (setMode i .auto s) (accepted false []) ha
          (clearManual_of_active (s := discarded l s) hp h)⟩

end Sys2Proof.Machine
end

section
/-! PROOFS. The statement of 05_gas_limits_and_locks.md on the locks: what the four lock commands do, and that
the Gas Limit Monitor's lock sets stand under every other command. -/

namespace Sys2Proof.Machine

/-! ## What reaches the Gas Limit Monitor

Of the owning blocks' decisions only Set Limits and the four lock commands write the monitor's state. -/

section OwnerGas

variable (s : State) (p : Payload)

theorem whenEditable_gas {edit : State × Answer} (h : edit.1.gas = s.gas) :
    (whenEditable s edit).1.gas = s.gas := by
  rw [whenEditable]; split
  · exact h
  · rfl

@[simp] theorem readSlot_gas : (readSlot p s).1.gas = s.gas := by rw [readSlot]; split <;> rfl
@[simp] theorem readZone_gas : (readZone p s).1.gas = s.gas := by rw [readZone]; split <;> rfl
@[simp] theorem readRoundSummary_gas : (readRoundSummary p s).1.gas = s.gas := by
  rw [readRoundSummary]; split <;> rfl
@[simp] theorem clearNotices_gas (l : Link) : (clearNotices l p s).1.gas = s.gas := by
  simp only [clearNotices]; split <;> rfl

@[simp] theorem editPlanParameters_gas : (editPlanParameters p s).1.gas = s.gas := whenEditable_gas s rfl
@[simp] theorem setZoneCount_gas : (setZoneCount p s).1.gas = s.gas := whenEditable_gas s rfl
@[simp] theorem editZone_gas : (editZone p s).1.gas = s.gas := by
  rw [editZone]; split
  · rfl
  · exact whenEditable_gas s rfl
@[simp] theorem editSlotEntry_gas : (editSlotEntry p s).1.gas = s.gas := by
  rw [editSlotEntry]; split
  · rfl
  · exact whenEditable_gas s (by split <;> rfl)
@[simp] theorem adoptPlan_gas : (adoptPlan s).1.gas = s.gas := whenEditable_gas s (by split <;> rfl)
@[simp] theorem discardPending_gas : (discardPending s).1.gas = s.gas := whenEditable_gas s rfl
@[simp] theorem storePlan_gas : (storePlan s).1.gas = s.gas := by rw [storePlan]; split <;> rfl

@[simp] theorem setCapacity_gas : (setCapacity p s).1.gas = s.gas := by simp only [setCapacity]; split <;> rfl
@[simp] theorem setRoundMode_gas : (setRoundMode p s).1.gas = s.gas := by simp only [setRoundMode]; split <;> rfl
@[simp] theorem runRound_gas : (runRound s).1.gas = s.gas := by simp [runRound]
@[simp] theorem hold_gas : (hold s).1.gas = s.gas := by rw [hold]; split <;> rfl
@[simp] theorem release_gas : (release s).1.gas = s.gas := by rw [release]; split <;> simp
@[simp] theorem shutIn_gas : (shutIn s).1.gas = s.gas := by rw [shutIn]; split <;> simp
@[simp] theorem releaseShutIn_gas : (releaseShutIn s).1.gas = s.gas := by rw [releaseShutIn]; split <;> rfl

@[simp] theorem setClock_gas : (setClock p s).1.gas = s.gas := by simp only [setClock]; split <;> rfl
@[simp] theorem setWindow_gas : (setWindow p s).1.gas = s.gas := by
  simp only [setWindow]; split
  · rfl
  · split <;> simp
@[simp] theorem reArm_gas : (reArm p s).1.gas = s.gas := by
  simp only [reArm]; repeat' split
  all_goals rfl
@[simp] theorem disarm_gas : (disarm p s).1.gas = s.gas := by simp only [disarm]; split <;> rfl

@[simp] theorem commissionSlot_gas : (commissionSlot p s).1.gas = s.gas := by
  simp only [commissionSlot]; repeat' split
  all_goals rfl
@[simp] theorem retireSlot_gas : (retireSlot p s).1.gas = s.gas := by
  simp only [retireSlot]; repeat' split
  all_goals simp
@[simp] theorem reclaimSlot_gas : (reclaimSlot p s).1.gas = s.gas := by
  simp only [reclaimSlot]; repeat' split
  all_goals rfl
@[simp] theorem setManual_gas : (setManual p s).1.gas = s.gas := by
  simp only [setManual]; repeat' split
  all_goals rfl
@[simp] theorem clearManual_gas : (clearManual p s).1.gas = s.gas := by
  simp only [clearManual]; repeat' split
  all_goals rfl
@[simp] theorem clearValveFault_gas : (clearValveFault p s).1.gas = s.gas := by
  simp only [clearValveFault]; repeat' split
  all_goals simp

@[simp] theorem beginTest_gas : (beginTest p s).1.gas = s.gas := by
  simp only [beginTest]; repeat' split
  all_goals rfl
@[simp] theorem addTestSlot_gas : (addTestSlot p s).1.gas = s.gas := by
  simp only [addTestSlot]; repeat' split
  all_goals rfl
@[simp] theorem suspendTest_gas : (suspendTest s).1.gas = s.gas := by rw [suspendTest]; split <;> rfl
@[simp] theorem resumeTest_gas : (resumeTest s).1.gas = s.gas := by rw [resumeTest]; split <;> simp
@[simp] theorem beginPurge_gas : (beginPurge p s).1.gas = s.gas := by
  simp only [beginPurge]; repeat' split
  all_goals simp
@[simp] theorem abortProcedure_gas : (abortProcedure s).1.gas = s.gas := by
  simp only [abortProcedure]; split <;> simp

/-- The four lock commands (R96 to R98). -/
def lockCommands : List Command := [.lockSlot, .unlockSlot, .lockZone, .unlockZone]

theorem owner_gas (l : Link) {c : Command} (h : c ∉ Command.setLimits :: lockCommands) :
    (owner l p c s).1.gas = s.gas := by
  cases c
  case setLimits | lockSlot | unlockSlot | lockZone | unlockZone => exact absurd (by decide) h
  all_goals simp [owner, readReply, readNotices, setNoticeMask]

end OwnerGas

/-! ## Placing and removing a lock (R96 to R98) -/

section LockCommands

variable {s : State} {p : Payload}

theorem lockSlot_of_slot {i : SlotIdx} (h : slotOf (u8 p 0) = some i) :
    lockSlot p s = (closeSlot i (setSlotLock i true s), accepted false []) := by
  rw [lockSlot, h]

theorem unlockSlot_of_slot {i : SlotIdx} (h : slotOf (u8 p 0) = some i) :
    unlockSlot p s = (setSlotLock i false s, accepted false []) := by
  rw [unlockSlot, h]

theorem lockZone_of_zone {k : ZoneIdx} (h : zoneOfNum (u8 p 0) = some k) :
    lockZone p s =
      (issueZone k (urgentClose (closedWithZone s k) (setZoneLock k true s)), accepted false []) := by
  rw [lockZone, h]

theorem unlockZone_of_zone {k : ZoneIdx} (h : zoneOfNum (u8 p 0) = some k) :
    unlockZone p s = (setZoneLock k false s, accepted false []) := by
  rw [unlockZone, h]

/-- An admitted request that its owner accepts as sent, with no data to give. -/
theorem exec_of_accepted {l : Link} {c : Command} {t : State} (h : Admitted l c p s)
    (ho : owner l p c (discarded l s) = (t, accepted false [])) :
    exec (requestInstr l p c) s = .next (answered l (codeOf c) .ok [] t) := by
  rw [exec_of_admitted s l p c h, ho]
  rfl

/-- R99: a slot is locked by its own lock or by its zone's. -/
theorem locked_iff (s : State) (i : SlotIdx) :
    locked s i = true ↔ s.gas.slotLocks.get i = true ∨ s.gas.zoneLocks.get (zoneAt s i) = true := by
  rw [locked, zoneLocked, Bool.or_eq_true]

end LockCommands

/-! ## What leaves the lock sets as they were -/

/-- Both lock sets stand from one state to another. -/
structure LocksKept (s t : State) : Prop where
  slots : t.gas.slotLocks = s.gas.slotLocks
  zones : t.gas.zoneLocks = s.gas.zoneLocks

theorem LocksKept.of_gas_eq {s t : State} (h : t.gas = s.gas) : LocksKept s t := by
  constructor <;> rw [h]

theorem LocksKept.refl (s : State) : LocksKept s s := ⟨rfl, rfl⟩

theorem LocksKept.trans {s t u : State} (h : LocksKept s t) (g : LocksKept t u) : LocksKept s u :=
  ⟨g.slots.trans h.slots, g.zones.trans h.zones⟩

/-- An operation that keeps the locks, taken after one that leaves the monitor. -/
theorem LocksKept.after {s t u : State} (g : LocksKept t u) (h : t.gas = s.gas) : LocksKept s u :=
  (LocksKept.of_gas_eq h).trans g

section Delivery

variable (s : State)

theorem locksKept_alarmTakes (out : Bool) : LocksKept s (alarmTakes out s) := by
  rw [alarmTakes]; repeat' split
  all_goals exact ⟨rfl, rfl⟩

theorem locksKept_watchTakes (d : Delivery) : LocksKept s (watchTakes d s) := by
  rw [watchTakes]; split <;> exact ⟨rfl, rfl⟩

theorem locksKept_bandTakes (d : Delivery) : LocksKept s (bandTakes d s) := by
  rw [bandTakes]; repeat' split
  all_goals exact ⟨rfl, rfl⟩

/-- A reading changes the alarm, the watch and the band alone (R101). -/
theorem locksKept_deliver (d : Delivery) : LocksKept s (deliver d s) :=
  ((locksKept_alarmTakes s _).trans (locksKept_watchTakes _ d)).trans (locksKept_bandTakes _ d)

theorem locksKept_takeReply (h : HeadAddr) (r : HeadReply) : LocksKept s (takeReply h r s) := by
  cases h with
  | manifold => exact (locksKept_deliver _ _).after rfl
  | slot i => exact .of_gas_eq (takeSlotReply_gas s i _)

theorem locksKept_fieldFrame (bytes : List Byte) : LocksKept s (fieldFrame bytes s) := by
  rw [fieldFrame]; split
  · exact .refl s
  · split
    · exact ((locksKept_takeReply (clearPoll s) _ _).trans (.of_gas_eq (sendNext_gas _))).after rfl
    · exact .of_gas_eq (by simp)

end Delivery

/-- Set Limits writes the limits alone. -/
theorem locksKept_setLimits (s : State) (p : Payload) : LocksKept s (setLimits p s).1 := by
  constructor <;> simp [setLimits]

theorem locksKept_owner (s : State) (l : Link) (p : Payload) {c : Command} (h : c ∉ lockCommands) :
    LocksKept s (owner l p c s).1 := by
  by_cases hc : c = .setLimits
  · subst hc
    exact locksKept_setLimits s p
  · exact .of_gas_eq (owner_gas s p l (List.not_mem_cons_of_ne_of_not_mem hc h))

/-- A request of another command leaves the locks whether it is discarded, refused or decided by its owner. -/
theorem locksKept_takeRequest (s : State) (l : Link) (p : Payload) {c : Command} (h : c ∉ lockCommands) :
    LocksKept s (takeRequest l c p (owner l p c) s) := by
  have hunt : LocksKept s (huntAgain l s) := .of_gas_eq rfl
  rw [takeRequest]; split
  · exact hunt
  · split
    · exact hunt.trans (.of_gas_eq rfl)
    · exact (hunt.trans (locksKept_owner _ l p h)).trans (.of_gas_eq rfl)

/-! ## The frame of the lock sets, command by command -/

section Exec

/-- The outcome of a command on a state is a state with the same lock sets, if it is a state. -/
def KeepsLocks (s : State) (o : Host.Outcome State Fault Refusal) : Prop := ∀ t, o = .next t → LocksKept s t

theorem KeepsLocks.next {s t : State} (h : LocksKept s t) : KeepsLocks s (.next t) := by
  intro u hu
  cases hu
  exact h

/-- A command that leaves the whole of the monitor as it was. -/
theorem KeepsLocks.of_gas_eq {s t : State} (h : t.gas = s.gas) : KeepsLocks s (.next t) :=
  .next (.of_gas_eq h)

variable (s : State)

/-- The request rows, each of which is the taking of its command's request. -/
theorem keepsLocks_request (l : Link) (p : Payload) {c : Command} (h : c ∉ lockCommands) :
    KeepsLocks s (.next (takeRequest l c p (owner l p c) s)) :=
  .next (locksKept_takeRequest s l p h)

theorem receiveGap_gas (l : Link) : (receiveGap l s).gas = s.gas := by
  rw [receiveGap]; split <;> rfl

theorem finishReply_gas (l : Link) : (finishReply l s).gas = s.gas := by
  rw [finishReply]; split <;> rfl

theorem keepsLocks_roundTimerExpiry : KeepsLocks s (execRoundTimerExpiry s) := by
  rw [execRoundTimerExpiry]; repeat' split
  all_goals exact .of_gas_eq (by simp)

theorem keepsLocks_gasBandRequest : KeepsLocks s (execGasBandRequest s) := by
  simp only [execGasBandRequest]; repeat' split
  all_goals exact .of_gas_eq (by simp)

theorem keepsLocks_travelTimeout (i : SlotIdx) : KeepsLocks s (execTravelTimeout i s) := by
  rw [execTravelTimeout]; split
  all_goals exact .of_gas_eq (by simp)

theorem keepsLocks_manifoldWatchExpiry : KeepsLocks s (execManifoldWatchExpiry s) := by
  simp only [execManifoldWatchExpiry]; repeat' split
  all_goals exact .next ⟨rfl, rfl⟩

theorem keepsLocks_keyDebounceExpiry : KeepsLocks s (execKeyDebounceExpiry s) := by
  simp only [execKeyDebounceExpiry]; repeat' split
  · exact .of_gas_eq rfl
  · exact .next ⟨rfl, rfl⟩
  · exact .next (by constructor <;> simp)

theorem keepsLocks_tripDebounceExpiry (j : LineIdx) : KeepsLocks s (execTripDebounceExpiry j s) := by
  simp only [execTripDebounceExpiry]; repeat' split
  all_goals exact .of_gas_eq (by simp)

theorem keepsLocks_minuteRollover : KeepsLocks s (execMinuteRollover s) := by
  rw [execMinuteRollover]; split
  all_goals exact .of_gas_eq (by simp)

theorem keepsLocks_gatheringWindowExpiry : KeepsLocks s (execGatheringWindowExpiry s) := by
  rw [execGatheringWindowExpiry]; split
  all_goals exact .of_gas_eq (by simp)

theorem keepsLocks_measuringExpiry : KeepsLocks s (execMeasuringExpiry s) := by
  rw [execMeasuringExpiry]; split
  all_goals exact .of_gas_eq (by simp)

theorem keepsLocks_purgeExpiry : KeepsLocks s (execPurgeExpiry s) := by
  rw [execPurgeExpiry]; split
  all_goals exact .of_gas_eq (by simp)

theorem keepsLocks_storeWriteEnd (readBack : List Byte) : KeepsLocks s (execStoreWriteEnd readBack s) := by
  rw [execStoreWriteEnd]; repeat' split
  all_goals exact .of_gas_eq (by simp)

/-- Every row but reset, the four lock commands and those that bring a request frame's bytes. -/
theorem keepsLocks_exec {c : Instr} (hreset : c ≠ .reset)
    (hlock : ∀ l p, c ≠ .lockSlot l p ∧ c ≠ .unlockSlot l p ∧ c ≠ .lockZone l p ∧ c ≠ .unlockZone l p)
    (hunknown : ∀ l code p, c ≠ .unknownCommand l code p) (hframe : ∀ l body crc, c ≠ .frameCrcDiscard l body crc)
    (hbyte : ∀ l b, c ≠ .frameLengthDiscard l b ∧ c ≠ .linkByteReceived l b) : KeepsLocks s (exec c s) := by
  cases c
  case reset => exact absurd rfl hreset
  case lockSlot l p =>
    obtain ⟨h, -, -, -⟩ := hlock l p
    exact absurd rfl h
  case unlockSlot l p =>
    obtain ⟨-, h, -, -⟩ := hlock l p
    exact absurd rfl h
  case lockZone l p =>
    obtain ⟨-, -, h, -⟩ := hlock l p
    exact absurd rfl h
  case unlockZone l p =>
    obtain ⟨-, -, -, h⟩ := hlock l p
    exact absurd rfl h
  case unknownCommand l code p => exact absurd rfl (hunknown l code p)
  case frameCrcDiscard l body crc => exact absurd rfl (hframe l body crc)
  case frameLengthDiscard l b => exact absurd rfl (hbyte l b).1
  case linkByteReceived l b => exact absurd rfl (hbyte l b).2
  case interByteGapTimeout l => exact .of_gas_eq (receiveGap_gas s l)
  case frameDuringReply l _ _ => exact .of_gas_eq (huntAgain_gas s l)
  case replySent l => exact .of_gas_eq (finishReply_gas s l)
  case fieldReplyTaken frame => exact .next (locksKept_fieldFrame s frame)
  case fieldReplyRejected frame => exact .next (locksKept_fieldFrame s frame)
  case pollTimeout => exact .of_gas_eq (pollMissed_gas s)
  case strayFieldBytes => exact .of_gas_eq rfl
  case roundTimerExpiry => exact keepsLocks_roundTimerExpiry s
  case requestedRound => exact .of_gas_eq (takeRequested_gas s)
  case gasBandRequest => exact keepsLocks_gasBandRequest s
  case travelTimeout i => exact keepsLocks_travelTimeout s i
  case manifoldWatchExpiry => exact keepsLocks_manifoldWatchExpiry s
  case keyInputChange => exact .next ⟨rfl, rfl⟩
  case keyDebounceExpiry => exact keepsLocks_keyDebounceExpiry s
  case tripContactChange => exact .of_gas_eq rfl
  case tripDebounceExpiry j => exact keepsLocks_tripDebounceExpiry s j
  case drainageClockAdvance => exact .of_gas_eq rfl
  case minuteRollover => exact keepsLocks_minuteRollover s
  case gatheringWindowExpiry => exact keepsLocks_gatheringWindowExpiry s
  case measuringExpiry => exact keepsLocks_measuringExpiry s
  case purgeExpiry => exact keepsLocks_purgeExpiry s
  case storeWriteEnd readBack => exact keepsLocks_storeWriteEnd s readBack
  all_goals exact keepsLocks_request s _ _ (by decide)

end Exec

/-- Settles O33: each lock command through its owner, and the frame of the others row by row. -/
theorem locks : Obligations.Locks := by
  refine ⟨fun l p s => ⟨fun i hp => ⟨?lockSlot, ?unlockSlot⟩, fun k hp => ⟨?lockZone, ?unlockZone⟩⟩, locked_iff,
    ?frame⟩
  case lockSlot => exact fun ha => exec_of_accepted (c := .lockSlot) ha (lockSlot_of_slot hp)
  case unlockSlot => exact fun ha => exec_of_accepted (c := .unlockSlot) ha (unlockSlot_of_slot hp)
  case lockZone => exact fun ha => exec_of_accepted (c := .lockZone) ha (lockZone_of_zone hp)
  case unlockZone => exact fun ha => exec_of_accepted (c := .unlockZone) ha (unlockZone_of_zone hp)
  case frame =>
    intro c s t hexec hreset hlock hunknown hframe hbyte
    obtain ⟨hslots, hzones⟩ := keepsLocks_exec s hreset hlock hunknown hframe hbyte t hexec
    exact ⟨hslots, hzones⟩

end Sys2Proof.Machine
end

section
/-! PROOFS. The statements of 06_trip_lines_and_quiet_windows.md on requests: Re-arm and Disarm of a trip line,
and the edit of a quiet window. -/

namespace Sys2Proof

/-- Writing back the value that stands changes nothing. -/
@[simp] theorem Table.set_get {n : Nat} {α : Type} (t : Table n α) (i : Fin n) : t.set i (t.get i) = t := by
  ext j
  by_cases h : j = i
  · subst h; simp
  · simp [h]

end Sys2Proof

namespace Sys2Proof.Machine

/-! ## Numbers counted from 1 -/

theorem indexOf_eq_some {n num : Nat} {i : Fin n} (h : num = i.val + 1) : indexOf n num = some i := by
  simp [indexOf, h, Nat.succ_le_of_lt i.isLt]

theorem indexOf_eq_none {n num : Nat} (h : num = 0 ∨ n < num) : indexOf n num = none := by
  have hrange : ¬(1 ≤ num ∧ num ≤ n) := by omega
  simp [indexOf, hrange]

/-! ## Re-arm and Disarm (R114) -/

section Lines

variable {p : Payload} {s : State}

theorem disarm_of_no_line (h : lineOf p = none) : disarm p s = (s, refusal .badValue) := by
  rw [disarm, h]

theorem reArm_of_no_line (h : lineOf p = none) : reArm p s = (s, refusal .badValue) := by
  rw [reArm, h]

variable {j : LineIdx} (hp : lineOf p = some j)

include hp

theorem disarm_of_line :
    disarm p s =
      (setLine j { s.trips.lines.get j with state := .disarmed } s,
        accepted false [0x02#8, flagByte (s.trips.lines.get j).inputActive]) := by
  rw [disarm, hp]
  rfl

/-- An ARMED line with an INACTIVE input is written back as it stands. -/
theorem reArm_of_inactive (h : (s.trips.lines.get j).inputActive = false) :
    reArm p s =
      (setLine j { s.trips.lines.get j with state := .armed } s, accepted false [0x00#8, 0x00#8]) := by
  by_cases harmed : (s.trips.lines.get j).state = .armed
  · have hsame : { s.trips.lines.get j with state := .armed } = s.trips.lines.get j := by rw [← harmed]
    rw [hsame]
    simp [reArm, hp, harmed, h, setLine, TripLine.bytes, LineState.byte, flagByte]
  · simp [reArm, hp, harmed, h, TripLine.bytes, LineState.byte, flagByte]

theorem reArm_of_active (h : (s.trips.lines.get j).inputActive = true)
    (harmed : (s.trips.lines.get j).state ≠ .armed) :
    reArm p s = (s, refusal .lineActive [(s.trips.lines.get j).state.byte, 0x01#8]) := by
  simp [reArm, hp, harmed, h, TripLine.bytes, flagByte]

end Lines

/-- Settles O38, by the line named and then by its debounced input. -/
theorem reArmAndDisarm : Obligations.ReArmAndDisarm := by
  refine fun l p s => ⟨fun j hnum => ?line, fun hnum => ?noLine⟩
  case line =>
    have hp : lineOf p = some j := indexOf_eq_some hnum
    exact ⟨fun ha => exec_of_owner (c := .disarm) (setLine j _ s) (accepted false _) ha
        (disarm_of_line (s := discarded l s) hp),
      fun ha h => exec_of_owner (c := .reArm) (setLine j _ s) (accepted false _) ha
        (reArm_of_inactive (s := discarded l s) hp h),
      fun ha h harmed => exec_of_refusal (c := .reArm) ha (reArm_of_active (s := discarded l s) hp h harmed)⟩
  case noLine =>
    have hp : lineOf p = none := indexOf_eq_none hnum
    exact ⟨fun ha => exec_of_refusal (c := .disarm) ha (disarm_of_no_line hp),
      fun ha => exec_of_refusal (c := .reArm) ha (reArm_of_no_line hp)⟩

/-! ## The fields of a Set Window (R119, R167) -/

/-- A one-byte field is its byte. -/
theorem u8_eq {p : Payload} {k : Nat} (h : k < p.length) : u8 p k = p[k].toNat := by
  rw [u8, numAt, List.drop_eq_getElem_cons h]
  rfl

/-- A two-byte field is its bytes, the low one first. -/
theorem u16_eq {p : Payload} {k : Nat} (h : k + 1 < p.length) : u16 p k = p[k].toNat + 256 * p[k + 1].toNat := by
  rw [u16, numAt, List.drop_eq_getElem_cons (Nat.lt_of_succ_lt h), List.drop_eq_getElem_cons h]
  rfl

@[simp] theorem byteOf_toNat (b : Byte) : byteOf b.toNat = b := by simp [byteOf]

/-- A flag of 0 or 1 is laid out as it was sent. -/
theorem flagByte_of_le_one {b : Byte} (h : b.toNat ≤ 1) : flagByte (b.toNat == 1) = b := by
  have hcases : b = 0#8 ∨ b = 1#8 := by bv_omega
  rcases hcases with rfl | rfl <;> rfl

/-- A weekday or hour is laid out as it was sent, ANY included (R167). -/
theorem anyByte_anyOf (b : Byte) : anyByte (anyOf b.toNat) = b := by
  by_cases h : b.toNat = 255
  · have hb : b = 0xFF#8 := BitVec.eq_of_toNat_eq h
    rw [hb]; rfl
  · simp [anyOf, optOf, h, anyByte]

theorem leBytes_one (n : Nat) : leBytes 1 n = [byteOf n] := rfl

theorem leBytes_two (low high : Byte) : leBytes 2 (low.toNat + 256 * high.toNat) = [low, high] := by
  have hlow : byteOf (low.toNat + 256 * high.toNat) = low := by
    rw [byteOf]; bv_omega
  have hhigh : (low.toNat + 256 * high.toNat) / 256 = high.toNat := by bv_omega
  simp [leBytes, hlow, hhigh]

/-- A weekday or hour, when it is not ANY, lies where it must. -/
theorem all_anyOf (q : Nat → Bool) (v : Nat) : (anyOf v).all q = true ↔ v = 255 ∨ q v = true := by
  by_cases h : v = 255 <;> simp [anyOf, optOf, h]

/-- The fields of R119 that are refused rather than clamped, spelled out. -/
theorem windowFieldsOk_iff (p : Payload) :
    windowFieldsOk p = true ↔
      u8 p 1 ≤ 1 ∧ (u8 p 2 = 255 ∨ (1 ≤ u8 p 2 ∧ u8 p 2 ≤ 7)) ∧ (u8 p 3 = 255 ∨ u8 p 3 ≤ 23) ∧ u8 p 4 ≤ 59 ∧
        u16 p 6 < 1024 := by
  simp [windowFieldsOk, windowFor, all_anyOf, within, and_assoc]

/-- The entry number and the entry that the reply carries are the payload with the clamped duration and ceiling
in their places. -/
theorem windowFor_echo {p : Payload} {w : WindowIdx} (hlen : p.length = 9) (hnum : u8 p 0 = w.val + 1)
    (hok : windowFieldsOk p = true) :
    byteOf (w.val + 1) :: (windowFor p).bytes =
      p.take 5 ++ leBytes 1 (windowFor p).duration ++ (p.drop 6).take 2 ++ leBytes 1 (windowFor p).ceiling := by
  obtain ⟨henabled, -, -, -, hzones⟩ := (windowFieldsOk_iff p).1 hok
  match p, hlen with
  | [n, enabled, weekday, hour, minute, duration, zonesLow, zonesHigh, ceiling], _ =>
    have hflag : enabled.toNat ≤ 1 := by simpa [u8_eq] using henabled
    replace hzones : zonesLow.toNat + 256 * zonesHigh.toNat < 1024 := by simpa [u16_eq] using hzones
    have hset : (BitVec.ofNat 10 (zonesLow.toNat + 256 * zonesHigh.toNat)).toNat =
        zonesLow.toNat + 256 * zonesHigh.toNat :=
      Nat.mod_eq_of_lt hzones
    rw [← hnum]
    simp [windowFor, WindowEntry.bytes, u8_eq, u16_eq, flagByte_of_le_one hflag, anyByte_anyOf, hset, leBytes_one,
      leBytes_two]

/-! ## Set Window (R120) -/

/-- A notice raised on the links leaves their receivers, so that it may be raised before or after a frame is
taken. -/
theorem raise_discarded (f : Notice) (l : Link) (s : State) : raise f (discarded l s) = discarded l (raise f s) := by
  cases l <;> rfl

section Edit

variable {p : Payload} {s : State}

theorem setWindow_of_bad_value (h : u8 p 0 = 0 ∨ 8 < u8 p 0 ∨ ¬windowFieldsOk p = true) :
    setWindow p s = (s, refusal .badValue) := by
  rw [← or_assoc] at h
  rcases h with hnum | hfields
  · rw [setWindow, indexOf_eq_none hnum]
  · rw [setWindow]
    split
    · rfl
    · rw [if_neg hfields]

theorem setWindow_of_fields {w : WindowIdx} (hnum : u8 p 0 = w.val + 1) (hok : windowFieldsOk p = true) :
    setWindow p s =
      (windowEdited (s.trips.windows.get w).remaining.isSome
          (setWindowAt w { entry := windowFor p, remaining := none } s),
        accepted ((windowFor p).duration ≠ u8 p 5 ∨ (windowFor p).ceiling ≠ u8 p 8)
          (byteOf (w.val + 1) :: (windowFor p).bytes)) := by
  simp only [setWindow, indexOf_eq_some hnum, hok, if_true, bne_eq_decide_ne, Bool.decide_or]

end Edit

theorem windowEdited_discarded (b : Bool) (l : Link) (w : WindowIdx) (v : Window) (s : State) :
    windowEdited b (setWindowAt w v (discarded l s)) = discarded l (windowEdited b (setWindowAt w v s)) := by
  cases b
  · rfl
  · exact raise_discarded .windowChange l (deriveCeilings (setWindowAt w v s))

/-- R120 in full: an admitted Set Window whose fields lie in their ranges, of an entry with an active occurrence
or without. -/
theorem exec_setWindow_of_fields {l : Link} {p : Payload} {s : State} {w : WindowIdx}
    (ha : Admitted l .setWindow p s) (hnum : u8 p 0 = w.val + 1) (hok : windowFieldsOk p = true) :
    exec (.setWindow l p) s =
      .next
        (answered l 0x1A#8 (okUnless ((windowFor p).duration ≠ u8 p 5 ∨ (windowFor p).ceiling ≠ u8 p 8))
          (p.take 5 ++ leBytes 1 (windowFor p).duration ++ (p.drop 6).take 2 ++ leBytes 1 (windowFor p).ceiling)
          (windowEdited (s.trips.windows.get w).remaining.isSome
            (setWindowAt w { entry := windowFor p, remaining := none } s))) := by
  obtain ⟨hlength, -, -⟩ := (checkRequest_eq_none l p .setWindow).1 ha.2
  have hlen : p.length = 9 := by simpa [lengthOk, payloadLength] using hlength
  rw [← windowFor_echo hlen hnum hok]
  refine exec_of_owner (c := .setWindow) _ (accepted _ _) ha ?_
  rw [← windowEdited_discarded]
  exact setWindow_of_fields hnum hok

/-- Settles O40: the entry stored is the one R119 spells out, and the occurrence it had decides whether the
ceilings are derived again. -/
theorem setWindowLaw : Obligations.SetWindow := by
  intro l p s ha
  refine ⟨fun w hnum hfields => ?stored, fun hbad => ?refused⟩
  case stored =>
    have hexec := exec_setWindow_of_fields ha hnum ((windowFieldsOk_iff p).2 hfields)
    have hentry : windowFor p =
        { enabled := decide (u8 p 1 = 1), weekday := anyOf (u8 p 2), hour := anyOf (u8 p 3), minute := u8 p 4,
          duration := max 1 (min 240 (u8 p 5)), zones := BitVec.ofNat 10 (u16 p 6), ceiling := min 100 (u8 p 8) } := by
      simp [windowFor, clampTo, beq_eq_decide]
    rw [hentry] at hexec
    refine ⟨fun hidle => ?_, fun hactive => ?_⟩
    · rw [hidle] at hexec
      exact hexec
    · rw [hactive] at hexec
      exact hexec
  case refused =>
    rw [← windowFieldsOk_iff] at hbad
    exact exec_of_refusal (c := .setWindow) ha (setWindow_of_bad_value hbad)

end Sys2Proof.Machine
end

section
/-! PROOFS. The statements of 07_borehole_procedures.md on Begin Purge and on the results list: the order in which
R137 decides, what an acceptance writes, the list of R141 and the rise rate of R142. -/

namespace Sys2Proof.Machine

/-! ## Begin Purge (R137) -/

/-- A state after a purge of a slot has begun from IDLE or SUSPENDED into the purging state given (R137, R85). -/
def purgeBegun (to_ : ProcState) (i : SlotIdx) (seconds : Nat) (s : State) : State :=
  issueZone (zoneAt s i)
    (removeEntries (fun j => j == i)
      { s with
        proc :=
          { s.proc with
            state := to_, purgeSlot := some i, purgeExpiry := some (s.elapsed + seconds), errorFlag := false } })

@[simp] theorem purgeBegun_state (to_ : ProcState) (i : SlotIdx) (seconds : Nat) (s : State) :
    (purgeBegun to_ i seconds s).proc.state = to_ := by
  simp [purgeBegun]

/-- IDLE goes to PURGING and SUSPENDED to SUSPENDED_PURGING. -/
theorem startPurge_eq_purgeBegun {s : State} {to_ : ProcState}
    (h : (s.proc.state, to_) ∈ [(ProcState.idle, ProcState.purging), (.suspended, .suspendedPurging)])
    (i : SlotIdx) (seconds : Nat) : startPurge i seconds s = purgeBegun to_ i seconds s := by
  simp only [List.mem_cons, Prod.mk.injEq, List.not_mem_nil, or_false] at h
  rcases h with ⟨hidle, rfl⟩ | ⟨hsuspended, rfl⟩
  · simp [startPurge, purgeBegun, setProc, hidle]
  · simp [startPurge, purgeBegun, setProc, hsuspended]

section Owner

variable {p : Payload} {i : SlotIdx} {s : State} (hp : slotOf (u8 p 0) = some i)

include hp

theorem beginPurge_of_busy (h : ¬(s.proc.state = .idle ∨ s.proc.state = .suspended)) :
    beginPurge p s = (s, refusal .procBusy) := by
  have hbusy : s.proc.state ≠ .idle ∧ s.proc.state ≠ .suspended := not_or.1 h
  simp [beginPurge, hp, hbusy]

theorem beginPurge_of_unfit (hfree : s.proc.state = .idle ∨ s.proc.state = .suspended)
    (h : ¬(lifecycleOf s i = .active ∧ headResponding s i = true)) :
    beginPurge p s = (s, refusal .slotUnfit) := by
  have hpass : (s.proc.state != .idle && s.proc.state != .suspended) = false := by
    rcases hfree with hstate | hstate <;> simp [hstate]
  have hunfit : (lifecycleOf s i != .active || !headResponding s i) = true := by
    rw [Classical.not_and_iff_not_or_not] at h
    simpa using h
  simp only [beginPurge, hp, hpass, hunfit, Bool.false_eq_true, if_false, if_true]

variable (hactive : lifecycleOf s i = .active) (hhead : headResponding s i = true)

include hactive hhead

theorem beginPurge_of_inTest (hstate : s.proc.state = .suspended) (h : inTestSet s i = true) :
    beginPurge p s = (s, refusal .slotInTest) := by
  simp [beginPurge, hp, hactive, hhead, hstate, h]

theorem beginPurge_of_fit (hfree : s.proc.state = .idle ∨ s.proc.state = .suspended)
    (h : s.proc.state = .suspended → inTestSet s i = false) :
    beginPurge p s =
      (startPurge i (clampTo 10 300 (u16 p 1)) s,
        accepted (clampTo 10 300 (u16 p 1) ≠ u16 p 1)
          ([(startPurge i (clampTo 10 300 (u16 p 1)) s).proc.state.byte, byteOf (slotNum i)] ++
            leBytes 2 (clampTo 10 300 (u16 p 1)))) := by
  rcases hfree with hstate | hstate
  · simp [beginPurge, hp, hactive, hhead, hstate, bne_eq_decide_ne]
  · simp [beginPurge, hp, hactive, hhead, hstate, h hstate, bne_eq_decide_ne]

end Owner

/-- R137 in full: an admitted Begin Purge that no refusal meets. The frame's effect on the link stays within the
purge's beginning, for `issueZone` does not commute with `discarded` by definition. -/
theorem exec_beginPurge_of_fit {l : Link} {p : Payload} {s : State} {i : SlotIdx} {to_ : ProcState}
    (ha : Admitted l .beginPurge p s) (hp : slotOf (u8 p 0) = some i)
    (hto : (s.proc.state, to_) ∈ [(ProcState.idle, ProcState.purging), (.suspended, .suspendedPurging)])
    (hactive : lifecycleOf s i = .active) (hhead : headResponding s i = true)
    (h : s.proc.state = .suspended → inTestSet s i = false) :
    exec (.beginPurge l p) s =
      .next
        (answered l 0x3A#8 (okUnless (clampTo 10 300 (u16 p 1) ≠ u16 p 1))
          ([to_.byte, byteOf (slotNum i)] ++ leBytes 2 (clampTo 10 300 (u16 p 1)))
          (purgeBegun to_ i (clampTo 10 300 (u16 p 1)) (discarded l s))) := by
  have hfree : s.proc.state = .idle ∨ s.proc.state = .suspended := by
    simp only [List.mem_cons, Prod.mk.injEq, List.not_mem_nil, or_false] at hto
    exact hto.imp And.left And.left
  have howner : owner l p .beginPurge (discarded l s) = _ :=
    beginPurge_of_fit (s := discarded l s) hp hactive hhead hfree h
  rw [startPurge_eq_purgeBegun (s := discarded l s) hto, purgeBegun_state] at howner
  have hexec := exec_of_admitted s l p .beginPurge ha
  rwa [howner] at hexec

/-- Settles O46, the three refusals in their order and then the acceptance. -/
theorem beginPurgeLaw : Obligations.BeginPurge := by
  intro l p s i ha hp
  refine ⟨?busy, ?unfit, ?inTest, ?begun⟩
  case busy =>
    exact fun hbusy => exec_of_refusal (c := .beginPurge) ha (beginPurge_of_busy (s := discarded l s) hp hbusy)
  case unfit =>
    exact fun hfree hunfit =>
      exec_of_refusal (c := .beginPurge) ha (beginPurge_of_unfit (s := discarded l s) hp hfree hunfit)
  case inTest =>
    exact fun hstate ⟨hactive, hhead⟩ htest =>
      exec_of_refusal (c := .beginPurge) ha
        (beginPurge_of_inTest (s := discarded l s) hp hactive hhead hstate htest)
  case begun =>
    rintro _ to_ rfl hto ⟨hactive, hhead⟩ htest
    exact exec_beginPurge_of_fit ha hp hto hactive hhead htest

/-! ## The results list (R141) -/

theorem appendResult_of_not_full {rs : List ResultRecord} (h : rs.length < 16) (r : ResultRecord) :
    appendResult rs r = rs ++ [r] := by
  rw [appendResult, Nat.sub_eq_zero_of_le h, List.drop_zero]

theorem appendResult_of_full {rs : List ResultRecord} (h : rs.length = 16) (r : ResultRecord) :
    appendResult rs r = rs.tail ++ [r] := by
  rw [appendResult, h, List.drop_append_of_le_length (by omega), List.drop_one]

/-- Records appended one after another to a list within its limit leave the last 16 of them all. -/
theorem foldl_appendResult (xs : List ResultRecord) {rs : List ResultRecord} (h : rs.length ≤ 16) :
    xs.foldl appendResult rs = (rs ++ xs).drop (rs.length + xs.length - 16) := by
  induction xs generalizing rs with
  | nil => simp [Nat.sub_eq_zero_of_le h]
  | cons r xs ih =>
    rw [List.foldl_cons]
    rcases h.lt_or_eq with hroom | hfull
    · rw [appendResult_of_not_full hroom, ih (by simpa using hroom)]
      simp [Nat.add_comm xs.length, Nat.add_assoc]
    · rw [appendResult_of_full hfull, ih (by simp [hfull])]
      obtain ⟨oldest, rest, rfl⟩ := List.exists_cons_of_length_eq_add_one hfull
      have hrest : rest.length = 15 := by simpa using hfull
      simp [hrest, Nat.add_comm 16]

theorem appendFor_eq_drop (mk : TestPlace → ResultRecord) (ts : List TestPlace) {rs : List ResultRecord}
    (h : rs.length ≤ 16) :
    appendFor mk ts rs = (rs ++ (ascending ts).map mk).drop (rs.length + (ascending ts).length - 16) := by
  rw [appendFor, foldl_appendResult _ h, List.length_map]

theorem ascending_perm (ts : List TestPlace) : (ascending ts).Perm ts := List.perm_insertionSort _ ts

theorem ascending_pairwise (ts : List TestPlace) : (ascending ts).Pairwise fun a b => a.slot ≤ b.slot := by
  have total : Std.Total fun a b : TestPlace => a.slot ≤ b.slot := ⟨fun a b => le_total a.slot b.slot⟩
  have trans : IsTrans TestPlace fun a b => a.slot ≤ b.slot := ⟨fun _ _ _ => le_trans⟩
  exact List.pairwise_insertionSort _ ts

theorem length_appendFor (mk : TestPlace → ResultRecord) (ts : List TestPlace) {rs : List ResultRecord}
    (h : rs.length ≤ 16) : (appendFor mk ts rs).length = min 16 (rs.length + ts.length) := by
  have hlength : (ascending ts).length = ts.length := (ascending_perm ts).length_eq
  rw [appendFor_eq_drop mk ts h, List.length_drop, List.length_append, List.length_map, hlength]
  omega

/-- Places of distinct slots have one ascending order only. -/
theorem ascending_eq_of_pairwise {ts us : List TestPlace} (hperm : us.Perm ts)
    (hsorted : us.Pairwise fun a b => a.slot < b.slot) : ascending ts = us := by
  have hsame : (ascending ts).Perm us := (ascending_perm ts).trans hperm.symm
  have hdistinct : (us.map (·.slot)).Nodup := List.pairwise_map.2 (hsorted.imp ne_of_lt)
  refine List.Perm.eq_of_pairwise (fun a b ha hb hab hba => ?_) (ascending_pairwise ts) (hsorted.imp le_of_lt) hsame
  exact List.inj_on_of_nodup_map hdistinct (hsame.mem_iff.1 ha) hb (le_antisymm hab hba)

/-! ## The rise rate (R142) -/

theorem riseRate_of_le {start stop : Nat} (h : start ≤ stop) (seconds : Nat) :
    riseRate start stop seconds = (((stop - start) * 60 / seconds : Nat) : Int) := by
  rw [riseRate, ← Int.ofNat_sub h]
  exact (Int.ofNat_tdiv _ _).symm

/-- Truncation toward zero is symmetric: exchanged pressures give the opposite rate. -/
theorem riseRate_swap (start stop seconds : Nat) :
    riseRate start stop seconds = -riseRate stop start seconds := by
  rw [riseRate, riseRate, ← Int.neg_tdiv, ← Int.neg_mul, Int.neg_sub]

theorem riseRate_of_ge {start stop : Nat} (h : stop ≤ start) (seconds : Nat) :
    riseRate start stop seconds = -(((start - stop) * 60 / seconds : Nat) : Int) := by
  rw [riseRate_swap, riseRate_of_le h]

/-- Settles O47: the list clauses come from the fold of `appendResult`, the rate's from its two signs. -/
theorem resultRecords : Obligations.ResultRecords := by
  refine ⟨fun rs r => ⟨fun h => appendResult_of_not_full h r, fun h => appendResult_of_full h r, ?several⟩, ?rate⟩
  case several =>
    intro mk ts h
    refine ⟨length_appendFor mk ts h, ⟨ascending_perm ts, ascending_pairwise ts⟩, fun us hperm hsorted => ?_⟩
    rw [appendFor_eq_drop mk ts h, ascending_eq_of_pairwise hperm hsorted]
  case rate =>
    exact fun start stop seconds _ => ⟨fun h => riseRate_of_le h seconds, fun h => riseRate_of_ge h seconds⟩

end Sys2Proof.Machine
end

section
/-! PROOFS. The statements of 08_master_links.md on requests and notices: the checks of R149 in their order, the
authority table of R151, and the notice sets of R157 to R159. -/

namespace Sys2Proof.Machine

/-! ## The checks of a request (R149) -/

section Checks

variable {l : Link} {c : Command} {p : Payload}

theorem checkRequest_of_wrong_length (h : p.length ≠ payloadLength p c) :
    checkRequest l c p = some .badLength := by
  simp [checkRequest, lengthOk, h]

variable (hlen : p.length = payloadLength p c)

include hlen

theorem checkRequest_of_not_permitted (h : permitted c l = false) :
    checkRequest l c p = some .notPermitted := by
  have hpass : lengthOk c p = true := beq_iff_eq.2 hlen
  simp [checkRequest, hpass, h]

variable (hlink : permitted c l = true)

include hlink

theorem checkRequest_of_wrong_number (h : numbersOk c p = false) : checkRequest l c p = some .badValue := by
  have hpass : lengthOk c p = true := beq_iff_eq.2 hlen
  simp [checkRequest, hpass, hlink, h]

theorem checkRequest_of_right_number (h : numbersOk c p = true) : checkRequest l c p = none :=
  (checkRequest_eq_none l p c).2 ⟨beq_iff_eq.2 hlen, hlink, h⟩

end Checks

/-- R149, first check: a code that names no command is refused before anything is read of the payload. -/
theorem exec_unknownCommand_of_free {l : Link} {code : Byte} {s : State} (hfree : LinkFree l s)
    (h : commandOf code = none) (p : Payload) :
    exec (.unknownCommand l code p) s = .next (answered l code .unknownCommand [] s) := by
  have hidle : busy l s = false := by simp [busy, show (s.links.get l).request = none from hfree]
  have htaken : takeCode l code p s = answer l code (refusal .unknownCommand) (discarded l s) := by
    simp [takeCode, h, takeUnknown, hidle, huntAgain_eq_discarded]
  calc exec (.unknownCommand l code p) s
      = .next (answer l code (refusal .unknownCommand) (discarded l s)) := congrArg Host.Outcome.next htaken
    _ = .next (answered l code .unknownCommand [] s) := by
        rw [answer_eq_answered _ _ _ _ (discarded_receiver s l), answered_discarded]
        rfl

/-- R149, third check: a command is refused on a link that the authority table does not name for it. -/
theorem exec_of_not_permitted {l : Link} {c : Command} {p : Payload} {s : State} (hfree : LinkFree l s)
    (hlen : p.length = payloadLength p c) (h : permitted c l = false) :
    exec (requestInstr l p c) s = .next (answered l (codeOf c) .notPermitted [] s) :=
  exec_of_refused s l p c .notPermitted hfree (checkRequest_of_not_permitted hlen h)

/-- Settles O3: each clause gives the outcome of `checkRequest`, and with it what the command does. -/
theorem requestChecks : Obligations.RequestChecks := by
  intro l p s hfree
  refine ⟨fun code h => exec_unknownCommand_of_free hfree h p, fun c => ⟨fun hlen => ?length, fun hlen hlink => ?link,
    fun hlen hlink hnum => ?number, fun hlen hlink hnum => ?admitted⟩⟩
  case length => exact exec_of_refused s l p c .badLength hfree (checkRequest_of_wrong_length hlen)
  case link => exact exec_of_not_permitted hfree hlen hlink
  case number => exact exec_of_refused s l p c .badValue hfree (checkRequest_of_wrong_number hlen hlink hnum)
  case admitted => exact exec_of_admitted s l p c ⟨hfree, checkRequest_of_right_number hlen hlink hnum⟩

/-! ## The authority table (R151) -/

/-- Settles O4: the table is read row by row; the owners of the two shared commands are not told the link. -/
theorem authorityTable : Obligations.AuthorityTable := by
  refine ⟨fun c l => ?table, fun l c p s hfree hlen h => exec_of_not_permitted hfree hlen h, fun p s => ⟨rfl, rfl⟩⟩
  case table => cases c <;> simp [permitted]

/-! ## Sets of flags (R157) -/

theorem getLsbD_one_shiftLeft (m : Nat) {n : Nat} (h : n < 16) : (1#16 <<< m).getLsbD n = (m == n) := by
  have hbit : m = n → m < 16 := fun heq => heq ▸ h
  rw [← BitVec.twoPow_eq, BitVec.getLsbD_twoPow, Bool.eq_iff_iff]
  simpa using hbit

/-- The flags gathered one after another are those there were and those named. -/
theorem getLsbD_foldl_flags (ns : List Nat) (w : Word16) {n : Nat} (h : n < 16) :
    (ns.foldl (fun w n => w ||| (1#16 <<< n)) w).getLsbD n = (w.getLsbD n || ns.any (· == n)) := by
  induction ns generalizing w with
  | nil => simp
  | cons m ns ih =>
    rw [List.foldl_cons, ih, BitVec.getLsbD_or, getLsbD_one_shiftLeft m h, List.any_cons, Bool.or_assoc]

theorem getLsbD_knownFlags {n : Nat} (h : n < 16) : knownFlags.getLsbD n = (n != 15) := by
  have hall : ∀ n : Fin 16, knownFlags.getLsbD n.val = (n.val != 15) := by decide
  exact hall ⟨n, h⟩

/-- A flag lies in the set of flag numbers when it is named and is not the spare. -/
theorem getLsbD_flagSetOf (ns : List Nat) {n : Nat} (h : n < 16) :
    (flagSetOf ns).getLsbD n = (n != 15 && ns.any (· == n)) := by
  rw [flagSetOf, BitVec.getLsbD_and, getLsbD_foldl_flags ns 0#16 h, getLsbD_knownFlags h, BitVec.getLsbD_zero,
    Bool.false_or, Bool.and_comm]

/-- What is left of a notice set once the flags that a Clear Notices names have been cleared (R158). -/
def noticesLeft (p : Payload) (notices : Word16) : Word16 := notices &&& ~~~(flagSetOf (flagsNamed p))

theorem getLsbD_noticesLeft (p : Payload) (notices : Word16) {n : Nat} (h : n < 16) :
    (noticesLeft p notices).getLsbD n =
      (notices.getLsbD n && !(n != 15 && (p.drop 1).any fun b => b.toNat == n)) := by
  rw [noticesLeft, BitVec.getLsbD_and, BitVec.getLsbD_not, getLsbD_flagSetOf _ h, flagsNamed, List.any_map]
  simp [h, Function.comp_def]

/-! ## Raising (R157, R159) -/

theorem getLsbD_notify (f : Notice) (k : LinkState) {n : Nat} (h : n < 16) :
    (LinkState.notify f k).notices.getLsbD n = (k.notices.getLsbD n || n == f.number) := by
  rw [← f.bit_getLsbD h]
  exact BitVec.getLsbD_or

/-! ## The notice commands (R158) -/

/-- The frame taken first leaves its link HUNTING, whatever the owner then writes on the link. -/
theorem setLink_discarded (l : Link) (k : LinkState) (s : State) :
    setLink l { k with receiver := .hunting } (discarded l s) = discarded l (setLink l k s) := by
  simp [setLink, discarded]

@[simp] theorem discarded_links_get (l : Link) (s : State) :
    (discarded l s).links.get l = { s.links.get l with receiver := .hunting } := by
  simp [discarded]

section NoticeCommands

variable {l : Link} {p : Payload} {s : State}

theorem flagsNamed_all_le : (flagsNamed p).all (· ≤ 15) = true ↔ ∀ b ∈ p.drop 1, b.toNat ≤ 15 := by
  simp only [flagsNamed, List.all_map, List.all_eq_true, Function.comp_apply, decide_eq_true_eq]

theorem clearNotices_of_known (h : ∀ b ∈ p.drop 1, b.toNat ≤ 15) :
    clearNotices l p s =
      (setLink l { s.links.get l with notices := noticesLeft p (s.links.get l).notices }.refresh s,
        accepted false (leBytes 2 (noticesLeft p (s.links.get l).notices).toNat)) := by
  rw [clearNotices, if_pos (flagsNamed_all_le.2 h)]
  rfl

theorem clearNotices_of_unknown (h : ∃ b ∈ p.drop 1, 15 < b.toNat) :
    clearNotices l p s = (s, refusal .badValue) := by
  obtain ⟨b, hb, hlarge⟩ := h
  refine if_neg fun hall => ?_
  exact absurd (flagsNamed_all_le.1 hall b hb) (by omega)

theorem exec_clearNotices_of_known (ha : Admitted l .clearNotices p s) (h : ∀ b ∈ p.drop 1, b.toNat ≤ 15) :
    exec (.clearNotices l p) s =
      .next
        (answered l 0x09#8 .ok (leBytes 2 (noticesLeft p (s.links.get l).notices).toNat)
          (setLink l { s.links.get l with notices := noticesLeft p (s.links.get l).notices }.refresh s)) := by
  refine exec_of_owner (c := .clearNotices) _ (accepted false _) ha ?_
  rw [← setLink_discarded]
  refine (clearNotices_of_known (s := discarded l s) h).trans ?_
  rw [discarded_links_get]
  rfl

theorem exec_setNoticeMask (ha : Admitted l .setNoticeMask p s) :
    exec (.setNoticeMask l p) s =
      .next
        (answered l 0x0A#8 .ok (leBytes 2 (BitVec.ofNat 16 (u16 p 0) &&& knownFlags).toNat)
          (setLink l { s.links.get l with mask := BitVec.ofNat 16 (u16 p 0) &&& knownFlags }.refresh s)) := by
  refine exec_of_owner (c := .setNoticeMask) _ (accepted false _) ha ?_
  rw [← setLink_discarded]
  rw [owner, setNoticeMask, discarded_links_get]
  rfl

end NoticeCommands

/-- Settles O13: raising from `LinkState.notify` on each link, the notice commands from their owners. -/
theorem noticeSets : Obligations.NoticeSets := by
  refine ⟨fun f s l => ?raised, fun l p s => ⟨fun ha h => ?cleared, fun ha h => ?refused, fun ha => ?masked⟩⟩
  case raised =>
    have hlink : (raise f s).links.get l = LinkState.notify f (s.links.get l) := Links.get_map _ _ l
    simp only [hlink]
    exact ⟨fun n hn => getLsbD_notify f _ hn, rfl, rfl, rfl, rfl, rfl, f.number_le, rfl⟩
  case cleared =>
    exact ⟨noticesLeft p (s.links.get l).notices, fun n hn => getLsbD_noticesLeft p _ hn,
      exec_clearNotices_of_known ha h⟩
  case refused => exact exec_of_refusal (c := .clearNotices) ha (clearNotices_of_unknown h)
  case masked => exact exec_setNoticeMask ha

end Sys2Proof.Machine
end

section
/-! PROOFS. What every step keeps, reduced once to the operations of the blocks: a predicate that the traffic
of the links, the decisions of the owning blocks and each event keep is kept by every command, and so by
every step. -/

namespace Sys2Proof.Machine

/-! ## The named effects of the events -/

/-- A link with other traffic: what it receives, the request in progress, and the bytes of its last reply. -/
def LinkState.withTraffic (r : Receiver) (q : Option Reply) (bytes : List Byte) (k : LinkState) : LinkState :=
  { k with receiver := r, request := q, sent := bytes }

/-- The state with other traffic on one link. -/
def setTraffic (l : Link) (r : Receiver) (q : Option Reply) (bytes : List Byte) (s : State) : State :=
  setLink l ((s.links.get l).withTraffic r q bytes) s

/-- A round timer expiry that takes place: the rounds that come first, the round event, the next expiry (R42). -/
def timerRound (e : Nat) (s : State) : State :=
  let t := roundEvent (roundsAhead s)
  { t with rounds := { t.rounds with nextExpiry := some (e + t.rounds.period) } }

/-- One waiting request taken off the counts (R46, R47). -/
def takeOff (n : Nat) (s : State) : State :=
  { s with rounds := { s.rounds with requests := n, requestsAhead := s.rounds.requestsAhead - 1 } }

/-- The next expiry of the round timer set or removed. -/
def setExpiry (e : Option Nat) (s : State) : State := { s with rounds := { s.rounds with nextExpiry := e } }

/-- The missed flag clear. -/
def clearMissed (s : State) : State := { s with rounds := { s.rounds with missed := false } }

/-- One gas-band request taken off those that wait. -/
def takeGasBand (n : Nat) (s : State) : State := { s with rounds := { s.rounds with gasBandRequests := n } }

/-- The manifold watch SPENT. -/
def spendWatch (s : State) : State := { s with gas := { s.gas with watch := .spent } }

/-- The key switch in the condition given. -/
def setKeySwitch (closed : Bool) (s : State) : State := { s with gas := { s.gas with keySwitchClosed := closed } }

/-- The key line following the switch after its debounce. -/
def followKey (s : State) : State := { s with gas := { s.gas with keyActive := s.gas.keySwitchClosed } }

/-- A trip contact in the condition given. -/
def setContact (j : LineIdx) (closed : Bool) (s : State) : State :=
  setLine j { s.trips.lines.get j with contactClosed := closed } s

/-- A trip line's debounced input following its contact. -/
def followContact (j : LineIdx) (s : State) : State :=
  setLine j { s.trips.lines.get j with inputActive := (s.trips.lines.get j).contactClosed } s

/-- The minute rollovers due after an advance of the clock (R117, R118). -/
def dueAfterTick (trips : TripUnit) : List Clock :=
  if trips.clock.atMinuteEnd && !trips.unset then trips.rolloversDue ++ [trips.clock.advance]
  else trips.rolloversDue

/-- One second later (R117). -/
def tick (s : State) : State :=
  { s with
    elapsed := s.elapsed + 1
    trips := { s.trips with clock := s.trips.clock.advance, rolloversDue := dueAfterTick s.trips } }

/-- The rollover at the front of those due taken through the window table. -/
def takeRollover (c : Clock) (rest : List Clock) (s : State) : State :=
  rollWindows c { s with trips := { s.trips with rolloversDue := rest } }

theorem of_next {P : State → Prop} {u t : State} (h : P u) (ht : (.next u : Host.Outcome State Fault Refusal) = .next t) :
    P t :=
  Host.Outcome.next.inj ht ▸ h

/-! ## What each event can do

Each event leaves the state or has its named effect, under the condition with which its row takes place. -/

section Events

variable {s t : State}

theorem execRoundTimerExpiry_cases (h : execRoundTimerExpiry s = .next t) :
    t = s ∨ ∃ e, s.rounds.nextExpiry = some e ∧ e ≤ s.elapsed ∧ t = timerRound e s := by
  rw [execRoundTimerExpiry] at h
  split at h
  · exact .inl (Host.Outcome.next.inj h).symm
  next e he =>
    split at h
    next hdue => exact .inr ⟨e, he, hdue, (Host.Outcome.next.inj h).symm⟩
    · exact .inl (Host.Outcome.next.inj h).symm

theorem execGasBandRequest_cases (h : execGasBandRequest s = .next t) :
    t = s ∨ ∃ n, t = takeGasBand n s ∨
      ((takeGasBand n s).rounds.allocator.isShutIn = false ∧ t = enterShutIn .gasBand (takeGasBand n s)) := by
  simp only [execGasBandRequest] at h
  split at h
  · exact .inl (Host.Outcome.next.inj h).symm
  next n _ =>
    split at h
    · exact .inr ⟨n, .inl (Host.Outcome.next.inj h).symm⟩
    next hopen => exact .inr ⟨n, .inr ⟨Bool.eq_false_iff.2 hopen, (Host.Outcome.next.inj h).symm⟩⟩

theorem execTravelTimeout_cases {i : SlotIdx} (h : execTravelTimeout i s = .next t) :
    t = s ∨ (moveExpired s i = true ∧ t = stickAndIssue i s) := by
  rw [execTravelTimeout] at h
  split at h
  next hdue => exact .inr ⟨hdue, (Host.Outcome.next.inj h).symm⟩
  · exact .inl (Host.Outcome.next.inj h).symm

theorem execManifoldWatchExpiry_cases (h : execManifoldWatchExpiry s = .next t) :
    t = s ∨ t = spendWatch s ∨
      ((spendWatch s).gas.alarm.isRaised = false ∧ t = raiseAlarm .noManifold (spendWatch s)) := by
  simp only [execManifoldWatchExpiry] at h
  split at h
  · split at h
    · exact .inr (.inl (Host.Outcome.next.inj h).symm)
    next hclear => exact .inr (.inr ⟨Bool.eq_false_iff.2 hclear, (Host.Outcome.next.inj h).symm⟩)
  · exact .inl (Host.Outcome.next.inj h).symm

theorem execKeyDebounceExpiry_cases (h : execKeyDebounceExpiry s = .next t) :
    t = s ∨ t = followKey s ∨ t = keyRelease (followKey s) := by
  simp only [execKeyDebounceExpiry] at h
  split at h
  · exact .inl (Host.Outcome.next.inj h).symm
  · split at h
    · exact .inr (.inl (Host.Outcome.next.inj h).symm)
    · exact .inr (.inr (Host.Outcome.next.inj h).symm)

theorem execTripDebounceExpiry_cases {j : LineIdx} (h : execTripDebounceExpiry j s = .next t) :
    t = s ∨
      (¬((s.trips.lines.get j).contactClosed = true ∧ (s.trips.lines.get j).state = .armed) ∧
          t = followContact j s) ∨
        t = latchLine j (followContact j s) := by
  simp only [execTripDebounceExpiry] at h
  split at h
  · exact .inl (Host.Outcome.next.inj h).symm
  · split at h
    · exact .inr (.inr (Host.Outcome.next.inj h).symm)
    next hlatch => exact .inr (.inl ⟨by simpa using hlatch, (Host.Outcome.next.inj h).symm⟩)

theorem execMinuteRollover_cases (h : execMinuteRollover s = .next t) :
    t = s ∨ ∃ c rest, s.trips.rolloversDue = c :: rest ∧ t = takeRollover c rest s := by
  rw [execMinuteRollover] at h
  split at h
  · exact .inl (Host.Outcome.next.inj h).symm
  next c rest hdue => exact .inr ⟨c, rest, hdue, (Host.Outcome.next.inj h).symm⟩

theorem execGatheringWindowExpiry_cases (h : execGatheringWindowExpiry s = .next t) :
    t = s ∨ (s.proc.state = .gathering ∧ t = settle s) := by
  rw [execGatheringWindowExpiry] at h
  split at h
  next hdue =>
    simp only [Bool.and_eq_true, beq_iff_eq] at hdue
    exact .inr ⟨hdue.1, (Host.Outcome.next.inj h).symm⟩
  · exact .inl (Host.Outcome.next.inj h).symm

theorem execMeasuringExpiry_cases (h : execMeasuringExpiry s = .next t) :
    t = s ∨ (s.proc.state = .measuring ∧ t = completeTest s) := by
  rw [execMeasuringExpiry] at h
  split at h
  next hdue =>
    simp only [Bool.and_eq_true, beq_iff_eq] at hdue
    exact .inr ⟨hdue.1, (Host.Outcome.next.inj h).symm⟩
  · exact .inl (Host.Outcome.next.inj h).symm

theorem execPurgeExpiry_cases (h : execPurgeExpiry s = .next t) :
    t = s ∨ ((s.proc.state = .purging ∨ s.proc.state = .suspendedPurging) ∧ t = endPurge s) := by
  rw [execPurgeExpiry] at h
  split at h
  next hdue =>
    simp only [Bool.and_eq_true, Bool.or_eq_true, beq_iff_eq] at hdue
    exact .inr ⟨hdue.1, (Host.Outcome.next.inj h).symm⟩
  · exact .inl (Host.Outcome.next.inj h).symm

theorem execStoreWriteEnd_cases {readBack : List Byte} (h : execStoreWriteEnd readBack s = .next t) :
    t = s ∨ ∃ crc, t = endWrite crc readBack s := by
  rw [execStoreWriteEnd] at h
  split at h
  · exact .inl (Host.Outcome.next.inj h).symm
  next crc _ _ =>
    split at h
    · exact .inr ⟨crc, (Host.Outcome.next.inj h).symm⟩
    · exact .inl (Host.Outcome.next.inj h).symm

end Events

/-! ## What an owning block can decide

The decisions of every owner but those of Run Round and Release, which are round events, with what each has
tested before it. -/

theorem Table.cells_all {n : Nat} {α : Type} (t : Table n α) (q : α → Bool) :
    t.cells.all q = true ↔ ∀ i, q (t.get i) = true := by
  simp only [List.all_eq_true, Table.get]
  constructor
  · exact fun h i => h _ (List.getElem_mem _)
  · intro h x hx
    obtain ⟨k, hk, rfl⟩ := List.getElem_of_mem hx
    exact h ⟨k, t.size ▸ hk⟩

/-- The ranges of a plan, field by field (R3 to R8). -/
theorem Plan.inRange_iff (pl : Plan) :
    pl.inRange = true ↔
      within 1 10 pl.zoneCount = true ∧ within 20 600 pl.staleLimit = true ∧ within 10 120 pl.travelTimeout = true ∧
        (∀ k, (pl.zones.get k).inRange = true) ∧ ∀ i, (pl.entries.get i).inRange = true := by
  simp only [Plan.inRange, Bool.and_eq_true, Table.cells_all, and_assoc]

theorem within_iff {lo hi v : Nat} : within lo hi v = true ↔ lo ≤ v ∧ v ≤ hi := by simp [within]

theorem within_clampTo {lo hi : Nat} (h : lo ≤ hi) (v : Nat) : within lo hi (clampTo lo hi v) = true := by
  rw [within_iff, clampTo]; omega

theorem u8_le (p : Payload) (k : Nat) : u8 p k ≤ 255 := by
  rw [u8, numAt]
  rcases hd : (p.drop k).take 1 with _ | ⟨b, _ | ⟨b', bs⟩⟩
  · simp [leNat]
  · simp only [leNat]; omega
  · have hlen := congrArg List.length hd
    simp only [List.length_take, List.length_cons] at hlen; omega

/-- What an owning block's decision of a request makes of the state. -/
inductive Decided (l : Link) (s : State) : State → Prop where
  | nothing : Decided l s s
  | notices (k : LinkState) : Decided l s (setLink l k.refresh s)
  | pendingPlan (pl : Plan) (hed : s.plan.adoption = .editable)
      (hpl : s.plan.active.inRange = true → s.plan.pendingPlan.inRange = true → pl.inRange = true) :
      Decided l s (setPending pl s)
  | adopting (hed : s.plan.adoption = .editable) (hvalid : s.plan.pendingPlan.valid = true) :
      Decided l s { s with plan := { s.plan with adoption := .adopting } }
  | capacity (q : Nat) (hq : q ≤ 1200000) : Decided l s { s with rounds := { s.rounds with capacity := q } }
  | lowerCapacity (q : Nat) (hq : q ≤ 1200000) :
      Decided l s (requestRoundAhead { s with rounds := { s.rounds with capacity := q } })
  | roundMode (m : RoundMode) (period : Nat) (hper : within 5 600 period = true) :
      Decided l s
        { s with
          rounds := { s.rounds with mode := m, period := period, nextExpiry := expiryAfter m period s.elapsed } }
  | clock (c : Clock) (hc : c.inRange = true) :
      Decided l s { s with trips := { s.trips with clock := c, unset := false, rolloversDue := [] } }
  | window (w : WindowIdx) (e : WindowEntry) (he : e.inRange = true) :
      Decided l s
        (windowEdited (s.trips.windows.get w).remaining.isSome (setWindowAt w { entry := e, remaining := none } s))
  | store (hidle : s.store.state = .idle) : Decided l s (beginWrite s)
  | limits (sent : Limits) (b : Bool) :
      Decided l s (requestRoundIf b { s with gas := { s.gas with limits := clampLimits sent } })
  | lockSlot (i : SlotIdx) : Decided l s (closeSlot i (setSlotLock i true s))
  | unlockSlot (i : SlotIdx) : Decided l s (setSlotLock i false s)
  | lockZone (k : ZoneIdx) :
      Decided l s (issueZone k (urgentClose (closedWithZone s k) (setZoneLock k true s)))
  | unlockZone (k : ZoneIdx) : Decided l s (setZoneLock k false s)
  | hold (hrun : s.rounds.allocator = .running) : Decided l s (setAllocator .held s)
  | shutInAgain (hshut : s.rounds.allocator.isShutIn = true) : Decided l s (setAllocator (.shutIn .commanded) s)
  | shutIn : Decided l s (enterShutIn .commanded s)
  | releaseShutIn (hshut : s.rounds.allocator.isShutIn = true) : Decided l s (setAllocator .held s)
  | reArm (j : LineIdx) (hin : (s.trips.lines.get j).inputActive = false) :
      Decided l s (setLine j { s.trips.lines.get j with state := .armed } s)
  | disarm (j : LineIdx) : Decided l s (setLine j { s.trips.lines.get j with state := .disarmed } s)
  | abort (mk : TestPlace → ResultRecord) (ts : List TestPlace) :
      Decided l s (finishProcedure (setProc { s.proc with results := appendFor mk ts s.proc.results } s))
  | commission (i : SlotIdx) (seed : Nat) (hseed : within 1 20000 seed = true) (hlife : lifecycleOf s i = .vacant) :
      Decided l s (commissioned i seed s)
  | retire (i : SlotIdx) (hlife : lifecycleOf s i = .active) (htest : inTestSet s i = false)
      (hpurge : isPurgeSlot s i = false) :
      Decided l s (closeSlot i (setRoster i { s.plan.roster.get i with lifecycle := .retiring, mode := .auto } s))
  | reclaim (i : SlotIdx) (hlife : lifecycleOf s i = .retired) :
      Decided l s (setValve i restedValve (setRoster i { s.plan.roster.get i with lifecycle := .vacant } s))
  | manual (i : SlotIdx) (m : Mode) (hlife : lifecycleOf s i = .active) (hm : modeOk .active m = true) :
      Decided l s (setMode i m s)
  | faultClosed (i : SlotIdx) (hstuck : (valveOf s i).isStuck = true) :
      Decided l s (closeSlot i (setValve i { valveOf s i with state := .atRest } s))
  | faultHeld (i : SlotIdx) (hstuck : (valveOf s i).isStuck = true) (hopen : closesOnClear s i = false) :
      Decided l s (setValve i (valveOf s i).heldAtRest s)
  | beginTest (i : SlotIdx) (d : Nat) (hd : within 60 1800 d = true) (hidle : s.proc.state = .idle)
      (hfit : fit s i = true) :
      Decided l s
        (setProc
          { s.proc with
            state := .gathering
            testSet := [newPlace i]
            duration := some d
            gatherExpiry := some (s.elapsed + gatheringSeconds)
            errorFlag := false }
          s)
  | restartTest (hgather : s.proc.state = .gathering) : Decided l s (restartWindow s.proc.testSet s)
  | joinTest (i : SlotIdx) (hgather : s.proc.state = .gathering) (hnew : inTestSet s i = false)
      (hroom : s.proc.testSet.length < 8) (hfit : fit s i = true) :
      Decided l s (restartWindow (s.proc.testSet ++ [newPlace i]) s)
  | suspend (hclosing : testClosing s = true) :
      Decided l s
        (setProc
          { s.proc with
            state := .suspended
            testSet := s.proc.testSet.map fun t => newPlace t.slot
            measureStart := none
            measureExpiry := none }
          s)
  | resume (hsusp : s.proc.state = .suspended) : Decided l s (settle s)
  | purge (i : SlotIdx) (n : Nat) (hstate : s.proc.state = .idle ∨ s.proc.state = .suspended)
      (hlife : lifecycleOf s i = .active) (htest : s.proc.state = .suspended → inTestSet s i = false) :
      Decided l s (startPurge i n s)

section Decisions

variable {s : State} {l : Link} (p : Payload)

theorem decided_editPlanParameters : Decided l s (editPlanParameters p s).1 := by
  simp only [editPlanParameters, whenEditable]; split
  next hed =>
    refine .pendingPlan _ hed fun _ h => ?_
    obtain ⟨hz, -, -, hzones, hentries⟩ := (Plan.inRange_iff _).1 h
    exact (Plan.inRange_iff _).2
      ⟨hz, within_clampTo (by decide) _, within_clampTo (by decide) _, hzones, hentries⟩
  · exact .nothing

theorem decided_setZoneCount : Decided l s (setZoneCount p s).1 := by
  simp only [setZoneCount, whenEditable]; split
  next hed =>
    refine .pendingPlan _ hed fun _ h => ?_
    obtain ⟨-, hs, ht, hzones, hentries⟩ := (Plan.inRange_iff _).1 h
    exact (Plan.inRange_iff _).2 ⟨within_clampTo (by decide) _, hs, ht, hzones, hentries⟩
  · exact .nothing

theorem zoneFor_inRange (a b c d : Nat) (h : a ≤ 255) : (zoneFor a b c d).inRange = true := by
  simp only [ZoneRecord.inRange, zoneFor, Bool.and_eq_true]
  exact ⟨within_iff.2 ⟨Nat.zero_le _, h⟩, within_clampTo (by decide) _⟩

theorem decided_editZone : Decided l s (editZone p s).1 := by
  simp only [editZone, whenEditable]; split
  · exact .nothing
  next k _ =>
    split
    next hed =>
      refine .pendingPlan _ hed fun _ h => ?_
      obtain ⟨hz, hs, ht, hzones, hentries⟩ := (Plan.inRange_iff _).1 h
      refine (Plan.inRange_iff _).2 ⟨hz, hs, ht, fun j => ?_, hentries⟩
      rw [Table.get_set]; split
      · exact zoneFor_inRange _ _ _ _ (u8_le p 1)
      · exact hzones j
    · exact .nothing

theorem entryOf_inRange (h : tagOk (tagSent p) = true) : (entryOf p).inRange = true := by
  have hover : (overrideFor (u16 p 4)).all (within 20 600) = true := by
    rw [overrideFor]; split
    · rfl
    · exact within_clampTo (by decide) _
  simp only [SlotEntry.inRange, entryOf, h, hover, Bool.and_true, Bool.and_eq_true, within_iff]
  omega

theorem decided_editSlotEntry : Decided l s (editSlotEntry p s).1 := by
  simp only [editSlotEntry, whenEditable]; split
  · exact .nothing
  next i _ =>
    split
    next hed =>
      split
      next htag =>
        refine .pendingPlan _ hed fun _ h => ?_
        obtain ⟨hz, hs, ht, hzones, hentries⟩ := (Plan.inRange_iff _).1 h
        refine (Plan.inRange_iff _).2 ⟨hz, hs, ht, hzones, fun j => ?_⟩
        rw [Table.get_set]; split
        · exact entryOf_inRange p htag
        · exact hentries j
      · exact .nothing
    · exact .nothing

theorem decided_adoptPlan : Decided l s (adoptPlan s).1 := by
  simp only [adoptPlan, whenEditable]; split
  next hed =>
    split
    · exact .nothing
    next hnone => exact .adopting hed (by rw [Plan.valid, hnone]; rfl)
  · exact .nothing

theorem decided_discardPending : Decided l s (discardPending s).1 := by
  simp only [discardPending, whenEditable]; split
  next hed => exact .pendingPlan _ hed fun h _ => h
  · exact .nothing

theorem decided_setCapacity : Decided l s (setCapacity p s).1 := by
  simp only [setCapacity]; split
  · exact .lowerCapacity _ (min_le_left _ _)
  · exact .capacity _ (min_le_left _ _)

theorem decided_setRoundMode : Decided l s (setRoundMode p s).1 := by
  simp only [setRoundMode]; split
  · exact .nothing
  · exact .roundMode _ _ (within_clampTo (by decide) _)

theorem decided_setClock : Decided l s (setClock p s).1 := by
  simp only [setClock]; split
  next h => exact .clock _ h
  · exact .nothing

theorem windowFor_inRange (h : windowFieldsOk p = true) : (windowFor p).inRange = true := by
  simp only [windowFieldsOk, Bool.and_eq_true, decide_eq_true_eq] at h
  obtain ⟨⟨⟨⟨-, hday⟩, hhour⟩, hmin⟩, -⟩ := h
  simp only [WindowEntry.inRange, hday, hhour, Bool.true_and, Bool.and_eq_true]
  exact ⟨⟨within_iff.2 ⟨Nat.zero_le _, hmin⟩, within_clampTo (by decide) _⟩,
    within_iff.2 ⟨Nat.zero_le _, min_le_left _ _⟩⟩

theorem decided_setWindow : Decided l s (setWindow p s).1 := by
  simp only [setWindow]; split
  · exact .nothing
  · split
    next hok => exact .window _ _ (windowFor_inRange p hok)
    · exact .nothing

theorem decided_reArm : Decided l s (reArm p s).1 := by
  simp only [reArm]; split
  · exact .nothing
  next j _ =>
    split
    · exact .nothing
    · split
      · exact .nothing
      next hin => exact .reArm j (Bool.eq_false_iff.2 hin)

theorem decided_abortProcedure : Decided l s (abortProcedure s).1 := by
  simp only [abortProcedure]; split
  · exact .nothing
  · split
    · exact .abort (abortRecord s) s.proc.testSet
    · exact .abort (abortRecord s) []

theorem decided_commissionSlot : Decided l s (commissionSlot p s).1 := by
  simp only [commissionSlot]; split
  · exact .nothing
  next i _ =>
    split
    next hlife => exact .commission i _ (within_clampTo (by decide) _) (beq_iff_eq.1 hlife)
    · exact .nothing

theorem decided_retireSlot : Decided l s (retireSlot p s).1 := by
  simp only [retireSlot]; split
  · exact .nothing
  next i _ =>
    split
    · exact .nothing
    next hlife =>
      split
      · exact .nothing
      next hproc =>
        rw [Bool.or_eq_true, not_or] at hproc
        exact .retire i (by simpa using hlife) (Bool.eq_false_iff.2 hproc.1) (Bool.eq_false_iff.2 hproc.2)

theorem decided_reclaimSlot : Decided l s (reclaimSlot p s).1 := by
  simp only [reclaimSlot]; split
  · exact .nothing
  next i _ =>
    split
    · exact .nothing
    next hlife =>
      split
      · exact .nothing
      · exact .reclaim i (by simpa using hlife)

theorem decided_setManual : Decided l s (setManual p s).1 := by
  simp only [setManual]; split
  · exact .nothing
  next i _ =>
    split
    · exact .nothing
    next hlife =>
      split
      · exact .nothing
      · split
        · exact .nothing
        · split
          · exact .nothing
          · exact .manual i _ (by simpa using hlife) (by simp [modeOk])

theorem decided_clearManual : Decided l s (clearManual p s).1 := by
  simp only [clearManual]; split
  · exact .nothing
  next i _ =>
    split
    · exact .nothing
    next hlife => exact .manual i _ (by simpa using hlife) rfl

theorem decided_clearValveFault : Decided l s (clearValveFault p s).1 := by
  simp only [clearValveFault]; split
  · exact .nothing
  next i _ =>
    split
    · exact .nothing
    next hstuck =>
      split
      · exact .faultClosed i (by simpa using hstuck)
      next hopen => exact .faultHeld i (by simpa using hstuck) (Bool.eq_false_iff.2 hopen)

theorem decided_beginTest : Decided l s (beginTest p s).1 := by
  simp only [beginTest]; split
  · exact .nothing
  next i _ =>
    split
    · exact .nothing
    next hidle =>
      split
      · exact .nothing
      next hfit => exact .beginTest i _ (within_clampTo (by decide) _) (by simpa using hidle) (by simpa using hfit)

theorem decided_addTestSlot : Decided l s (addTestSlot p s).1 := by
  simp only [addTestSlot]; split
  · exact .nothing
  next i _ =>
    split
    · exact .nothing
    next hgather =>
      have hgather : s.proc.state = .gathering := by simpa using hgather
      split
      · exact .restartTest hgather
      next hnew =>
        split
        · exact .nothing
        next hroom =>
          split
          · exact .nothing
          next hfit => exact .joinTest i hgather (Bool.eq_false_iff.2 hnew) (by omega) (by simpa using hfit)

theorem decided_suspendTest : Decided l s (suspendTest s).1 := by
  rw [suspendTest]; split
  next h => exact .suspend h
  · exact .nothing

theorem decided_beginPurge : Decided l s (beginPurge p s).1 := by
  simp only [beginPurge]; split
  · exact .nothing
  next i _ =>
    split
    · exact .nothing
    next hstate =>
      split
      · exact .nothing
      next hfit =>
        split
        · exact .nothing
        next htest =>
          simp only [Bool.and_eq_true, bne_iff_ne, ne_eq, not_and_or, not_not] at hstate
          simp only [Bool.or_eq_true, bne_iff_ne, ne_eq, not_or, not_not] at hfit
          exact .purge i _ hstate hfit.1 fun hsusp => Bool.eq_false_iff.2 fun hin => htest (by simp [hsusp, hin])

theorem decided_resumeTest : Decided l s (resumeTest s).1 := by
  simp only [resumeTest]; split
  next hsusp => dsimp only; exact .resume hsusp
  all_goals exact .nothing

theorem decided_hold : Decided l s (hold s).1 := by
  rw [hold]; split
  next hrun => exact .hold hrun
  all_goals exact .nothing

theorem decided_shutIn : Decided l s (shutIn s).1 := by
  rw [shutIn]; split
  next hshut => exact .shutInAgain (by rw [hshut]; rfl)
  all_goals exact .shutIn

theorem decided_releaseShutIn : Decided l s (releaseShutIn s).1 := by
  rw [releaseShutIn]; split
  next hshut => exact .releaseShutIn (by rw [hshut]; rfl)
  all_goals exact .nothing

theorem decided_storePlan : Decided l s (storePlan s).1 := by
  rw [storePlan]; split
  next hidle => exact .store hidle
  · exact .nothing

end Decisions

/-- The inversion of every owner's decision but those of Run Round and Release. -/
theorem owner_decided (l : Link) (p : Payload) {c : Command} (s : State) (hrun : c ≠ .runRound)
    (hrel : c ≠ .release) : Decided l s (owner l p c s).1 := by
  cases c
  case runRound => exact absurd rfl hrun
  case release => exact absurd rfl hrel
  case readSlot => simp only [owner, readSlot]; split <;> exact .nothing
  case readZone => simp only [owner, readZone]; split <;> exact .nothing
  case readRoundSummary => simp only [owner, readRoundSummary]; split <;> exact .nothing
  case clearNotices =>
    simp only [owner, clearNotices]; split
    · exact .notices _
    · exact .nothing
  case setNoticeMask => exact .notices _
  case editPlanParameters => exact decided_editPlanParameters p
  case setZoneCount => exact decided_setZoneCount p
  case editZone => exact decided_editZone p
  case editSlotEntry => exact decided_editSlotEntry p
  case adoptPlan => exact decided_adoptPlan
  case discardPending => exact decided_discardPending
  case setCapacity => exact decided_setCapacity p
  case setRoundMode => exact decided_setRoundMode p
  case setClock => exact decided_setClock p
  case setWindow => exact decided_setWindow p
  case storePlan => exact decided_storePlan
  case setLimits => exact .limits _ _
  case lockSlot => simp only [owner, Machine.lockSlot]; split; exacts [.nothing, .lockSlot _]
  case unlockSlot => simp only [owner, Machine.unlockSlot]; split; exacts [.nothing, .unlockSlot _]
  case lockZone => simp only [owner, Machine.lockZone]; split; exacts [.nothing, .lockZone _]
  case unlockZone => simp only [owner, Machine.unlockZone]; split; exacts [.nothing, .unlockZone _]
  case hold => exact decided_hold
  case shutIn => exact decided_shutIn
  case releaseShutIn => exact decided_releaseShutIn
  case reArm => exact decided_reArm p
  case disarm => simp only [owner, Machine.disarm]; split; exacts [.nothing, .disarm _]
  case abortProcedure => exact decided_abortProcedure
  case commissionSlot => exact decided_commissionSlot p
  case retireSlot => exact decided_retireSlot p
  case reclaimSlot => exact decided_reclaimSlot p
  case setManual => exact decided_setManual p
  case clearManual => exact decided_clearManual p
  case clearValveFault => exact decided_clearValveFault p
  case beginTest => exact decided_beginTest p
  case addTestSlot => exact decided_addTestSlot p
  case suspendTest => exact decided_suspendTest
  case resumeTest => exact decided_resumeTest
  case beginPurge => exact decided_beginPurge p
  all_goals exact .nothing

/-! ## Predicates kept by every command -/

/-- A predicate is kept by the traffic of the links, by every owning block's decision, and by the effect of each
event under the condition with which it takes place. -/
structure KeptByCommands (P : State → Prop) : Prop where
  traffic : ∀ {s} l r q bytes, P s → P (setTraffic l r q bytes s)
  owner : ∀ {s} l p c, c ≠ .runRound → c ≠ .release → P s → P (owner l p c s).1
  reset : ∀ {s}, P s → P (resetPart s)
  clearPoll : ∀ {s}, P s → P (clearPoll s)
  sendNext : ∀ {s}, P s → P (sendNext s)
  manifoldReply : ∀ {s} r, P s → P (takeManifoldReply r s)
  slotReply : ∀ {s} i r, inService s i = true → P s → P (takeSlotReply i r s)
  missReply : ∀ {s} h, P s → P (missReply h s)
  roundEvent : ∀ {s}, P s → P (roundEvent s)
  takeOff : ∀ {s} n, s.rounds.requests = n + 1 → P s → P (takeOff n s)
  nextExpiry : ∀ {s} e, s.rounds.nextExpiry.isSome = true → P s → P (setExpiry (some e) s)
  restartTimer : ∀ {s}, P s → P (setExpiry (expiryAfter s.rounds.mode s.rounds.period s.elapsed) s)
  release : ∀ {s}, P s → P (setAllocator .running s)
  clearMissed : ∀ {s}, P s → P (clearMissed s)
  issueAll : ∀ {s}, P s → P (issueAll s)
  takeGasBand : ∀ {s} n, P s → P (takeGasBand n s)
  enterShutIn : ∀ {s} c, P s → P (enterShutIn c s)
  travelTimeout : ∀ {s} i, moveExpired s i = true → P s → P (stickAndIssue i s)
  spendWatch : ∀ {s}, P s → P (spendWatch s)
  raiseAlarm : ∀ {s} c, P s → P (raiseAlarm c s)
  keySwitch : ∀ {s} closed, P s → P (setKeySwitch closed s)
  followKey : ∀ {s}, P s → P (followKey s)
  keyRelease : ∀ {s}, P s → P (keyRelease s)
  setContact : ∀ {s} j closed, P s → P (setContact j closed s)
  followContact : ∀ {s} j,
    ¬((s.trips.lines.get j).contactClosed = true ∧ (s.trips.lines.get j).state = .armed) →
      P s → P (followContact j s)
  latch : ∀ {s} j, P s → P (latchLine j (Machine.followContact j s))
  tick : ∀ {s}, P s → P (tick s)
  takeRollover : ∀ {s} c rest, P s → P (takeRollover c rest s)
  settle : ∀ {s}, s.proc.state = .gathering → P s → P (settle s)
  completeTest : ∀ {s}, s.proc.state = .measuring → P s → P (completeTest s)
  endPurge : ∀ {s}, s.proc.state = .purging ∨ s.proc.state = .suspendedPurging → P s → P (endPurge s)
  endWrite : ∀ {s} crc readBack, P s → P (endWrite crc readBack s)

/-- A predicate is kept by every command, and does not depend on the queue of those that wait. -/
structure Kept (P : State → Prop) : Prop extends KeptByCommands P where
  queue : ∀ {s} q, P s → P { s with pending := q }

/-- A predicate that every decision keeps, as the inversion lists them, is kept by the owners. -/
theorem kept_owner {P : State → Prop} (decided : ∀ {l s t}, P s → Decided l s t → P t) {s : State} (l : Link)
    (p : Payload) (c : Command) (hrun : c ≠ .runRound) (hrel : c ≠ .release) (h : P s) : P (owner l p c s).1 :=
  decided h (owner_decided l p s hrun hrel)

namespace KeptByCommands

variable {P : State → Prop} (K : KeptByCommands P) {s t : State}

include K

/-! ### Round events -/

theorem takeRequested (h : P s) : P (takeRequested s) := by
  rw [Machine.takeRequested]; split
  · exact h
  next n hn => exact K.roundEvent (K.takeOff n hn h)

theorem roundsAhead (h : P s) : P (roundsAhead s) := by
  rw [Machine.roundsAhead]
  generalize s.rounds.requestsAhead = n
  induction n generalizing s with
  | zero => exact h
  | succ n ih => exact ih (K.takeRequested h)

theorem timerRound (e : Nat) (he : s.rounds.nextExpiry = some e) (h : P s) : P (timerRound e s) := by
  refine K.nextExpiry _ ?_ (K.roundEvent (K.roundsAhead h))
  obtain ⟨-, -, hevent, -⟩ := roundEvent_settings (Machine.roundsAhead s)
  obtain ⟨-, -, hahead, -⟩ := roundsAhead_settings s
  rw [hevent, hahead, he]
  rfl

theorem runRound (h : P s) : P (runRound s).1 := K.restartTimer (K.roundEvent (K.roundsAhead h))

theorem releaseNow (h : P s) : P (releaseNow s) := by
  rw [Machine.releaseNow]; split
  · exact K.clearMissed (K.roundEvent (K.release (K.roundsAhead h)))
  · exact K.issueAll (K.release h)

theorem releaseDecided (h : P s) : P (Machine.release s).1 := by
  rw [Machine.release]; split
  case h_1 | h_2 => exact K.releaseNow h
  all_goals exact h

/-- Every owning block's decision keeps the predicate, those of the round commands by their round events. -/
theorem ownerDecided (l : Link) (p : Payload) (c : Command) (h : P s) : P (Machine.owner l p c s).1 := by
  by_cases hrun : c = .runRound
  · subst hrun; exact K.runRound h
  · by_cases hrel : c = .release
    · subst hrel; exact K.releaseDecided h
    · exact K.owner l p c hrun hrel h

/-! ### The field line -/

theorem takeReply {a : HeadAddr} (r : HeadReply) (h : P s) : P (takeReply a r s) := by
  cases a with
  | manifold => exact K.manifoldReply _ h
  | slot i =>
    by_cases hi : inService s i = true
    · exact K.slotReply i _ hi h
    · simpa [Machine.takeReply, takeSlotReply, hi] using h

theorem fieldFrame (bytes : List Byte) (h : P s) : P (fieldFrame bytes s) := by
  rw [Machine.fieldFrame]; split
  · exact h
  · split
    · exact K.sendNext (K.takeReply _ (K.clearPoll h))
    · exact K.sendNext (K.missReply _ (K.clearPoll h))

theorem pollMissed (h : P s) : P (pollMissed s) := by
  rw [Machine.pollMissed]; split
  · exact h
  · exact K.sendNext (K.missReply _ (K.clearPoll h))

/-! ### The links -/

theorem huntAgain (l : Link) (h : P s) : P (huntAgain l s) := K.traffic l _ _ _ h

theorem answer (l : Link) (code : Byte) (a : Answer) (h : P s) : P (answer l code a s) := K.traffic l _ _ _ h

theorem setReceiver (l : Link) (r : Receiver) (h : P s) :
    P (setLink l { s.links.get l with receiver := r } s) := K.traffic l _ _ _ h

theorem finishReply (l : Link) (h : P s) : P (finishReply l s) := by
  rw [Machine.finishReply]; split
  · exact h
  · exact K.traffic l _ _ _ h

theorem takeRequest (l : Link) (c : Command) (p : Payload) (h : P s) :
    P (takeRequest l c p (Machine.owner l p c) s) := by
  rw [Machine.takeRequest]; split
  · exact K.huntAgain l h
  · split
    · exact K.answer l _ _ (K.huntAgain l h)
    · exact K.answer l _ _ (K.ownerDecided l p c (K.huntAgain l h))

theorem takeCode (l : Link) (code : Byte) (p : Payload) (h : P s) : P (takeCode l code p s) := by
  rw [Machine.takeCode]; split
  · rw [takeUnknown]; split
    · exact K.huntAgain l h
    · exact K.answer l _ _ (K.huntAgain l h)
  · exact K.takeRequest l _ p h

theorem checkFrame (l : Link) (body : List Byte) (crc : Nat) (h : P s) : P (checkFrame l body crc s) := by
  simp only [Machine.checkFrame]; split
  · split
    · exact K.takeCode l _ _ h
    · exact K.huntAgain l h
  · exact K.huntAgain l h

theorem wholeFrame (l : Link) (body : List Byte) (crc : Word16) (h : P s) : P (wholeFrame l body crc s) := by
  rw [Machine.wholeFrame]; split
  · exact K.huntAgain l h
  · exact K.checkFrame l _ _ h

theorem assemble (l : Link) (late : Bool) (bytes : List Byte) (h : P s) : P (assemble l late bytes s) := by
  simp only [Machine.assemble]; split
  · exact K.setReceiver l _ h
  · split
    · exact K.huntAgain l h
    · split
      · exact K.setReceiver l _ h
      · split
        · exact K.huntAgain l h
        · exact K.checkFrame l _ _ h

theorem receiveByte (l : Link) (b : Byte) (h : P s) : P (receiveByte l b s) := by
  rw [Machine.receiveByte]; split
  · split
    · exact K.assemble l _ _ h
    · exact h
  · exact K.assemble l _ _ h

theorem receiveGap (l : Link) (h : P s) : P (receiveGap l s) := by
  rw [Machine.receiveGap]; split
  · exact h
  · exact K.huntAgain l h

/-! ### Timers and inputs -/

theorem roundTimerExpiry (h : P s) (ht : execRoundTimerExpiry s = .next t) : P t := by
  rcases execRoundTimerExpiry_cases ht with ht | ⟨e, he, -, ht⟩ <;> rw [ht]
  exacts [h, K.timerRound e he h]

theorem gasBandRequest (h : P s) (ht : execGasBandRequest s = .next t) : P t := by
  rcases execGasBandRequest_cases ht with ht | ⟨n, ht | ⟨-, ht⟩⟩ <;> rw [ht]
  exacts [h, K.takeGasBand n h, K.enterShutIn _ (K.takeGasBand n h)]

theorem travelTimeoutRow (i : SlotIdx) (h : P s) (ht : execTravelTimeout i s = .next t) : P t := by
  rcases execTravelTimeout_cases ht with ht | ⟨hdue, ht⟩ <;> rw [ht]
  exacts [h, K.travelTimeout i hdue h]

theorem manifoldWatchExpiry (h : P s) (ht : execManifoldWatchExpiry s = .next t) : P t := by
  rcases execManifoldWatchExpiry_cases ht with ht | ht | ⟨-, ht⟩ <;> rw [ht]
  exacts [h, K.spendWatch h, K.raiseAlarm _ (K.spendWatch h)]

theorem keyDebounceExpiry (h : P s) (ht : execKeyDebounceExpiry s = .next t) : P t := by
  rcases execKeyDebounceExpiry_cases ht with ht | ht | ht <;> rw [ht]
  exacts [h, K.followKey h, K.keyRelease (K.followKey h)]

theorem tripDebounceExpiry (j : LineIdx) (h : P s) (ht : execTripDebounceExpiry j s = .next t) : P t := by
  rcases execTripDebounceExpiry_cases ht with ht | ⟨hunarmed, ht⟩ | ht <;> rw [ht]
  exacts [h, K.followContact j hunarmed h, K.latch j h]

theorem minuteRollover (h : P s) (ht : execMinuteRollover s = .next t) : P t := by
  rcases execMinuteRollover_cases ht with ht | ⟨c, rest, -, ht⟩ <;> rw [ht]
  exacts [h, K.takeRollover c rest h]

theorem gatheringWindowExpiry (h : P s) (ht : execGatheringWindowExpiry s = .next t) : P t := by
  rcases execGatheringWindowExpiry_cases ht with ht | ⟨hstate, ht⟩ <;> rw [ht]
  exacts [h, K.settle hstate h]

theorem measuringExpiry (h : P s) (ht : execMeasuringExpiry s = .next t) : P t := by
  rcases execMeasuringExpiry_cases ht with ht | ⟨hstate, ht⟩ <;> rw [ht]
  exacts [h, K.completeTest hstate h]

theorem purgeExpiry (h : P s) (ht : execPurgeExpiry s = .next t) : P t := by
  rcases execPurgeExpiry_cases ht with ht | ⟨hstate, ht⟩ <;> rw [ht]
  exacts [h, K.endPurge hstate h]

theorem storeWriteEnd (readBack : List Byte) (h : P s) (ht : execStoreWriteEnd readBack s = .next t) : P t := by
  rcases execStoreWriteEnd_cases ht with ht | ⟨crc, ht⟩ <;> rw [ht]
  exacts [h, K.endWrite crc readBack h]

/-- Every command keeps the predicate: the events by what each can do, the traffic by what it hands over. -/
theorem exec (c : Instr) (h : P s) (ht : exec c s = .next t) : P t := by
  cases c
  case unknownCommand l code p => exact of_next (K.takeCode l code p h) ht
  case frameCrcDiscard l body crc => exact of_next (K.wholeFrame l body crc h) ht
  case frameLengthDiscard l b => exact of_next (K.receiveByte l b h) ht
  case linkByteReceived l b => exact of_next (K.receiveByte l b h) ht
  case interByteGapTimeout l => exact of_next (K.receiveGap l h) ht
  case frameDuringReply l _ _ => exact of_next (K.huntAgain l h) ht
  case replySent l => exact of_next (K.finishReply l h) ht
  case reset => exact of_next (K.reset h) ht
  case fieldReplyTaken frame => exact of_next (K.fieldFrame frame h) ht
  case fieldReplyRejected frame => exact of_next (K.fieldFrame frame h) ht
  case pollTimeout => exact of_next (K.pollMissed h) ht
  case strayFieldBytes => exact of_next h ht
  case requestedRound => exact of_next (K.takeRequested h) ht
  case keyInputChange closed => exact of_next (K.keySwitch closed h) ht
  case tripContactChange j closed => exact of_next (K.setContact j closed h) ht
  case drainageClockAdvance => exact of_next (K.tick h) ht
  case roundTimerExpiry => exact K.roundTimerExpiry h ht
  case gasBandRequest => exact K.gasBandRequest h ht
  case travelTimeout i => exact K.travelTimeoutRow i h ht
  case manifoldWatchExpiry => exact K.manifoldWatchExpiry h ht
  case keyDebounceExpiry => exact K.keyDebounceExpiry h ht
  case tripDebounceExpiry j => exact K.tripDebounceExpiry j h ht
  case minuteRollover => exact K.minuteRollover h ht
  case gatheringWindowExpiry => exact K.gatheringWindowExpiry h ht
  case measuringExpiry => exact K.measuringExpiry h ht
  case purgeExpiry => exact K.purgeExpiry h ht
  case storeWriteEnd readBack => exact K.storeWriteEnd readBack h ht
  all_goals exact of_next (K.takeRequest _ _ _ h) ht

end KeptByCommands

/-- Every step keeps the predicate. -/
theorem Kept.step {P : State → Prop} (K : Kept P) {s t : State} (h : P s) (ht : step s = .next t) : P t := by
  rw [Machine.step] at ht; split at ht
  · exact of_next h ht
  next c rest _ => exact K.exec c (K.queue rest h) ht

end Sys2Proof.Machine
end

section
/-! PROOFS. The attention lines, the limits and counters, the round settings, and the trip and window unit:
each law is kept by every step. -/

namespace Sys2Proof.Machine

/-! ## The attention lines (R157, R159) -/

/-- A link whose line is derived again follows, whatever its traffic, if its set and mask lack the spare. -/
theorem LinesFollow.setTraffic {s : State} (l : Link) (r : Receiver) (q : Option Reply) (bytes : List Byte)
    (h : LinesFollow s) : LinesFollow (setTraffic l r q bytes s) := fun m => by
  by_cases hm : m = l
  · subst hm; simpa [Machine.setTraffic, setLink, LinkState.withTraffic] using h m
  · simpa [Machine.setTraffic, setLink, Links.get_set_ne _ _ hm] using h m

/-- A link's line derived again from a set and a mask without the spare. -/
theorem LinesFollow.setLink {s : State} (l : Link) {k : LinkState} (h : LinesFollow s)
    (hnotices : k.notices.getLsbD 15 = false) (hmask : k.mask.getLsbD 15 = false) :
    LinesFollow (setLink l k.refresh s) := fun m => by
  by_cases hm : m = l
  · subst hm
    simp only [Machine.setLink, LinkState.refresh, Links.get_set_self]
    exact ⟨trivial, hnotices, hmask⟩
  · simpa [Machine.setLink, Links.get_set_ne _ _ hm] using h m

theorem LinesFollow.clearNotices {s : State} (l : Link) (p : Payload) (h : LinesFollow s) :
    LinesFollow (clearNotices l p s).1 := by
  obtain ⟨-, hnotices, hmask⟩ := h l
  simp only [Machine.clearNotices]; split
  · exact h.setLink l (by rw [BitVec.getLsbD_and, hnotices, Bool.false_and]) hmask
  · exact h

theorem LinesFollow.setNoticeMask {s : State} (l : Link) (p : Payload) (h : LinesFollow s) :
    LinesFollow (setNoticeMask l p s).1 := by
  obtain ⟨-, hnotices, -⟩ := h l
  exact h.setLink l hnotices (by rw [BitVec.getLsbD_and, getLsbD_knownFlags (by decide)]; exact Bool.and_false _)

theorem LinesFollow.owner {s : State} (l : Link) (p : Payload) (c : Command) (h : LinesFollow s) :
    LinesFollow (owner l p c s).1 := by
  by_cases hclear : c = .clearNotices
  · subst hclear; exact h.clearNotices l p
  · by_cases hmask : c = .setNoticeMask
    · subst hmask; exact h.setNoticeMask l p
    · exact h.mono (raises_owner s l p c hclear hmask)

theorem linesFollow_resetLink (lost : Bool) :
    (resetLink lost).attention = ((resetLink lost).notices &&& (resetLink lost).mask != 0#16) ∧
      (resetLink lost).notices.getLsbD 15 = false ∧ (resetLink lost).mask.getLsbD 15 = false := by
  cases lost <;> decide

theorem linesFollow_resetPart (s : State) : LinesFollow (resetPart s) := by
  intro l
  cases l <;> exact linesFollow_resetLink _

theorem raises_takeSlotReply (s : State) (i : SlotIdx) (r : HeadReply) : RaisesOnly s (takeSlotReply i r s) := by
  simp only [takeSlotReply]; split
  · exact (raises_reportPosition _ _ _ _).after rfl
  · exact .refl s

theorem kept_linesFollow : Kept LinesFollow where
  queue _ h := h
  traffic l r q bytes h := h.setTraffic l r q bytes
  owner l p c _ _ h := h.owner l p c
  reset {s} _ := linesFollow_resetPart s
  clearPoll h := h
  sendNext {s} h := h.mono (.of_eq (sendNext_links s))
  manifoldReply _ h := h.mono ((raises_deliver _ _).after rfl)
  slotReply {s} i r _ h := h.mono (raises_takeSlotReply s i r)
  missReply {s} a h := h.mono (raises_missReply s a)
  roundEvent {s} h := h.mono (raises_roundEvent s)
  takeOff _ _ h := h
  nextExpiry _ _ h := h
  restartTimer h := h
  release h := h
  clearMissed h := h
  issueAll {s} h := h.mono (.of_eq (issueAll_links s))
  takeGasBand _ h := h
  enterShutIn {s} c h := h.mono (raises_enterShutIn s c)
  travelTimeout {s} i _ h := h.mono (raises_stickAndIssue s i)
  spendWatch h := h
  raiseAlarm {s} c h := h.mono (raises_raiseAlarm s c)
  keySwitch _ h := h
  followKey h := h
  keyRelease {s} h := h.mono (.of_eq (keyRelease_links s))
  setContact _ _ h := h
  followContact _ _ h := h
  latch {s} j h := h.mono (s := followContact j s) (raises_latchLine _ j)
  tick h := h
  takeRollover c _ h := h.mono ((raises_rollWindows _ c).after rfl)
  settle {s} _ h := h.mono (raises_settle s)
  completeTest {s} _ h := h.mono (raises_completeTest s)
  endPurge {s} _ h := h.mono (raises_endPurge s)
  endWrite {s} crc bytes h := h.mono (raises_endWrite s crc bytes)

/-! ## The limits and the counters (R92, R102 to R106) -/

/-- The law of the Gas Limit Monitor reads its own state alone. -/
theorem GasInRange.of_gas_eq {s t : State} (h : GasInRange s) (hgas : t.gas = s.gas) : GasInRange t := by
  unfold GasInRange at h ⊢
  rw [hgas]
  exact h

theorem GasInRange.clampLimits {s : State} (sent : Limits) (h : GasInRange s) :
    GasInRange { s with gas := { s.gas with limits := clampLimits sent } } := by
  obtain ⟨-, -, -, -, -, -, hout, hin, hband, hcount⟩ := h
  refine ⟨?_, ?_, ?_, ?_, ?_, ?_, hout, hin, hband, hcount⟩
  all_goals simp only [Machine.clampLimits, clampTo]; omega

theorem GasInRange.raiseAlarm {s : State} (c : AlarmCause) (h : GasInRange s) : GasInRange (raiseAlarm c s) := by
  obtain ⟨h1, h2, h3, h4, h5, h6, -, -, hband, -⟩ := h
  exact ⟨h1, h2, h3, h4, h5, h6, Nat.zero_le _, Nat.zero_le _, hband, rfl⟩

theorem GasInRange.alarmTakes {s : State} (out : Bool) (h : GasInRange s) : GasInRange (alarmTakes out s) := by
  have hraise := h.raiseAlarm .readings
  obtain ⟨h1, h2, h3, h4, h5, hcount, hout, hin, hband, hzero⟩ := h
  rw [Machine.alarmTakes]; split
  next hclear =>
    rw [hclear] at hzero
    split
    · exact ⟨h1, h2, h3, h4, h5, hcount, Nat.zero_le _, hin, hband, by simpa [hclear, Alarm.isRaised] using hzero⟩
    · split
      · exact hraise
      next hfew =>
        refine ⟨h1, h2, h3, h4, h5, hcount, ?_, hin, hband, by simpa [hclear, Alarm.isRaised] using hzero⟩
        show s.gas.outCount + 1 ≤ 9
        omega
  next c hraised =>
    rw [hraised] at hzero
    split
    · exact ⟨h1, h2, h3, h4, h5, hcount, hout, Nat.zero_le _, hband, by simpa [hraised, Alarm.isRaised] using hzero⟩
    · split
      · exact ⟨h1, h2, h3, h4, h5, hcount, Nat.zero_le _, Nat.zero_le _, hband, rfl⟩
      next hfew =>
        refine ⟨h1, h2, h3, h4, h5, hcount, hout, ?_, hband, by simpa [hraised, Alarm.isRaised] using hzero⟩
        show s.gas.inCount + 1 ≤ 9
        omega

theorem GasInRange.watchTakes {s : State} (d : Delivery) (h : GasInRange s) : GasInRange (watchTakes d s) := by
  rw [Machine.watchTakes]; split <;> exact h

theorem GasInRange.bandTakes {s : State} (d : Delivery) (h : GasInRange s) : GasInRange (bandTakes d s) := by
  obtain ⟨h1, h2, h3, h4, h5, h6, hout, hin, -, hzero⟩ := h
  have hband : ∀ n ≤ 1, GasInRange { s with gas := { s.gas with bandCount := n } } := fun n hn =>
    ⟨h1, h2, h3, h4, h5, h6, hout, hin, hn, hzero⟩
  rw [Machine.bandTakes]; split
  · exact hband 0 (by decide)
  · split
    · exact hband 1 (by decide)
    · exact hband 0 (by decide)

theorem GasInRange.deliver {s : State} (d : Delivery) (h : GasInRange s) : GasInRange (deliver d s) :=
  ((h.alarmTakes _).watchTakes d).bandTakes d

theorem gasInRange_resetPart (s : State) : GasInRange (resetPart s) := by
  have hlimits : GasInRange State.reset := by simp [GasInRange, State.reset, defaultLimits, Alarm.isRaised]
  exact hlimits

theorem GasInRange.owner {s : State} (l : Link) (p : Payload) (c : Command) (h : GasInRange s) :
    GasInRange (owner l p c s).1 := by
  cases c
  case setLimits => exact (h.clampLimits (limitsSent p)).of_gas_eq (requestRoundIf_gas _ _)
  case lockSlot =>
    simp only [Machine.owner, lockSlot]; split
    · exact h
    next i _ => exact GasInRange.of_gas_eq (s := setSlotLock i true s) h (closeSlot_gas _ _)
  case unlockSlot => simp only [Machine.owner, unlockSlot]; split <;> exact h
  case lockZone =>
    simp only [Machine.owner, lockZone]; split
    · exact h
    next k _ => exact GasInRange.of_gas_eq (s := setZoneLock k true s) h (by simp)
  case unlockZone => simp only [Machine.owner, unlockZone]; split <;> exact h
  all_goals exact h.of_gas_eq (owner_gas s p l (by decide))

theorem kept_gasInRange : Kept GasInRange where
  queue _ h := h
  traffic _ _ _ _ h := h
  owner l p c _ _ h := h.owner l p c
  reset {s} _ := gasInRange_resetPart s
  clearPoll h := h
  sendNext {s} h := h.of_gas_eq (sendNext_gas s)
  manifoldReply _ h := GasInRange.deliver _ h
  slotReply {s} i r _ h := h.of_gas_eq (takeSlotReply_gas s i r)
  missReply {s} a h := h.of_gas_eq (missReply_gas s a)
  roundEvent {s} h := h.of_gas_eq (roundEvent_gas s)
  takeOff _ _ h := h
  nextExpiry _ _ h := h
  restartTimer h := h
  release h := h
  clearMissed h := h
  issueAll {s} h := h.of_gas_eq (issueAll_gas s)
  takeGasBand _ h := h
  enterShutIn {s} c h := h.of_gas_eq (enterShutIn_gas s c)
  travelTimeout {s} i _ h := h.of_gas_eq (stickAndIssue_gas s i)
  spendWatch h := h
  raiseAlarm c h := h.raiseAlarm c
  keySwitch _ h := h
  followKey h := h
  keyRelease {s} h := h.of_gas_eq (keyRelease_gas s)
  setContact _ _ h := h
  followContact _ _ h := h
  latch {s} j h := GasInRange.of_gas_eq (s := followContact j s) h (latchLine_gas _ j)
  tick h := h
  takeRollover c _ h := h.of_gas_eq (rollWindows_gas _ c)
  settle {s} _ h := h.of_gas_eq (settle_gas s)
  completeTest {s} _ h := h.of_gas_eq (completeTest_gas s)
  endPurge {s} _ h := h.of_gas_eq (endPurge_gas s)
  endWrite {s} crc bytes h := h.of_gas_eq (endWrite_gas s crc bytes)

/-! ## The round settings (R40, R47) -/

theorem loadImage_inRange {st : StoredImage} {img : Image} (h : loadImage st = some img) : img.inRange = true := by
  simp only [loadImage, decodeImage] at h
  split at h
  · split at h
    next hok =>
      cases h
      exact (Bool.and_eq_true_iff.1 hok).2
    · cases h
  · cases h

/-- The ranges of a loaded image, field by field. -/
theorem Image.inRange_iff (img : Image) :
    img.inRange = true ↔
      img.plan.inRange = true ∧ img.plan.valid = true ∧ (∀ i, lifeInRange (img.slots.get i) = true) ∧
        within 5 600 img.period = true ∧ ∀ w, (img.windows.get w).inRange = true := by
  simp only [Image.inRange, Bool.and_eq_true, Table.cells_all, and_assoc]

/-- The law of the Round Controller reads six of its fields alone. -/
theorem RoundsInRange.of_settings {s t : State} (h : RoundsInRange s) (hmode : t.rounds.mode = s.rounds.mode)
    (hperiod : t.rounds.period = s.rounds.period) (hexpiry : t.rounds.nextExpiry = s.rounds.nextExpiry)
    (hcapacity : t.rounds.capacity = s.rounds.capacity)
    (hrequests : s.rounds.requestsAhead ≤ s.rounds.requests → t.rounds.requestsAhead ≤ t.rounds.requests) :
    RoundsInRange t := by
  obtain ⟨h1, h2, h3, h4⟩ := h
  exact ⟨hperiod ▸ h1, hcapacity ▸ h2, by rw [hexpiry, hmode, h3], hrequests h4⟩

theorem RoundsInRange.of_rounds_eq {s t : State} (h : RoundsInRange s) (hrounds : t.rounds = s.rounds) :
    RoundsInRange t :=
  h.of_settings (by rw [hrounds]) (by rw [hrounds]) (by rw [hrounds]) (by rw [hrounds]) (by rw [hrounds]; exact id)

theorem RoundsInRange.requestRound {s : State} (h : RoundsInRange s) : RoundsInRange (requestRound s) :=
  h.of_settings rfl rfl rfl rfl (Nat.le_trans · (Nat.le_succ _))

theorem RoundsInRange.requestRoundIf {s : State} (b : Bool) (h : RoundsInRange s) :
    RoundsInRange (requestRoundIf b s) := by
  cases b
  · exact h
  · exact h.requestRound

theorem RoundsInRange.roundEvent {s : State} (h : RoundsInRange s) : RoundsInRange (roundEvent s) := by
  obtain ⟨hmode, hperiod, hexpiry, -, hcapacity, hrequests, -⟩ := roundEvent_settings s
  exact h.of_settings hmode hperiod hexpiry hcapacity (by rw [hrequests, roundEvent_requestsAhead]; exact id)

theorem RoundsInRange.alarmTakes {s : State} (out : Bool) (h : RoundsInRange s) :
    RoundsInRange (alarmTakes out s) := by
  rw [Machine.alarmTakes]; split
  · split
    · exact h
    · split
      · exact RoundsInRange.requestRound (s := raise _ _) h
      · exact h
  · split
    · exact h
    · split <;> exact h

theorem RoundsInRange.watchTakes {s : State} (d : Delivery) (h : RoundsInRange s) :
    RoundsInRange (watchTakes d s) := by
  rw [Machine.watchTakes]; split <;> exact h

theorem RoundsInRange.bandTakes {s : State} (d : Delivery) (h : RoundsInRange s) :
    RoundsInRange (bandTakes d s) := by
  rw [Machine.bandTakes]; split
  · exact h
  · split <;> exact h

theorem RoundsInRange.deliver {s : State} (d : Delivery) (h : RoundsInRange s) : RoundsInRange (deliver d s) :=
  ((h.alarmTakes _).watchTakes d).bandTakes d

theorem RoundsInRange.rollWindows {s : State} (c : Clock) (h : RoundsInRange s) :
    RoundsInRange (rollWindows c s) := by
  rw [Machine.rollWindows, completeRollover]; split
  · exact RoundsInRange.requestRoundIf (s := raise _ _) _ h
  · exact h

theorem roundsInRange_loadedRounds {img : Option Image} (himg : ∀ m, img = some m → within 5 600 m.period = true)
    {s : State} (hs : s.rounds = loadedRounds img) : RoundsInRange s := by
  have hperiod : within 5 600 ((img.map (·.period)).getD 30) = true := by
    cases img with
    | none => decide
    | some m => exact himg m rfl
  rw [RoundsInRange, hs]
  refine ⟨within_iff.1 hperiod, Nat.zero_le _, ?_, Nat.le_refl 0⟩
  simp only [loadedRounds]
  cases (img.map (·.mode)).getD .cycling <;> rfl

theorem RoundsInRange.decided {l : Link} {s t : State} (h : RoundsInRange s) (hd : Decided l s t) :
    RoundsInRange t := by
  cases hd
  case capacity q hq =>
    obtain ⟨h1, -, h3, h4⟩ := h
    exact ⟨h1, hq, h3, h4⟩
  case lowerCapacity q hq =>
    obtain ⟨h1, -, h3, h4⟩ := h
    exact ⟨h1, hq, h3, Nat.succ_le_succ h4⟩
  case roundMode m period hper =>
    obtain ⟨-, h2, -, h4⟩ := h
    exact ⟨within_iff.1 hper, h2, by cases m <;> rfl, h4⟩
  case limits => exact RoundsInRange.requestRoundIf (s := { s with gas := _ }) _ h
  case hold | shutInAgain | shutIn | releaseShutIn | commission => exact h
  all_goals exact h.of_rounds_eq (by simp)

theorem kept_roundsInRange : Kept RoundsInRange where
  queue _ h := h
  traffic _ _ _ _ h := h
  owner := kept_owner RoundsInRange.decided
  reset {s} _ :=
    roundsInRange_loadedRounds (img := loadImage s.store.stored)
      (fun m hm => ((Image.inRange_iff m).1 (loadImage_inRange hm)).2.2.2.1) rfl
  clearPoll h := h
  sendNext {s} h := h.of_rounds_eq (sendNext_rounds s)
  manifoldReply _ h := RoundsInRange.deliver _ h
  slotReply {s} i r _ h := h.of_rounds_eq (takeSlotReply_rounds s i r)
  missReply {s} a h := h.of_rounds_eq (missReply_rounds s a)
  roundEvent h := h.roundEvent
  takeOff n hn h := h.of_settings rfl rfl rfl rfl (by rw [hn]; exact Nat.sub_le_of_le_add)
  nextExpiry _ hsome h := by
    obtain ⟨h1, h2, h3, h4⟩ := h
    exact ⟨h1, h2, hsome.symm.trans h3, h4⟩
  restartTimer {s} h := by
    obtain ⟨h1, h2, -, h4⟩ := h
    refine ⟨h1, h2, ?_, h4⟩
    simp only [setExpiry]
    cases s.rounds.mode <;> rfl
  release h := h
  clearMissed h := h
  issueAll {s} h := h.of_rounds_eq (issueAll_rounds s)
  takeGasBand _ h := h
  enterShutIn _ h := h
  travelTimeout {s} i _ h := h.of_rounds_eq (stickAndIssue_rounds s i)
  spendWatch h := h
  raiseAlarm _ h := h.of_settings rfl rfl rfl rfl (Nat.le_trans · (Nat.le_succ _))
  keySwitch _ h := h
  followKey h := h
  keyRelease {s} h := h.of_rounds_eq (keyRelease_rounds s)
  setContact _ _ h := h
  followContact _ _ h := h
  latch {s} j h := RoundsInRange.of_rounds_eq (s := followContact j s) h (latchLine_rounds _ j)
  tick h := h
  takeRollover c _ h := RoundsInRange.rollWindows c h
  settle {s} _ h := h.of_rounds_eq (settle_rounds s)
  completeTest {s} _ h := h.of_rounds_eq (completeTest_rounds s)
  endPurge {s} _ h := h.of_rounds_eq (endPurge_rounds s)
  endWrite {s} crc bytes h := h.of_rounds_eq (endWrite_rounds s crc bytes)

/-! ## The clock, the windows, the ceilings and the trip lines (R112, R117 to R123) -/

theorem TripsLaw.of_trips_eq {s t : State} (h : TripsLaw s) (htrips : t.trips = s.trips) : TripsLaw t := by
  unfold TripsLaw at h ⊢
  rw [htrips]
  exact h

theorem Clock.inRange_iff (c : Clock) :
    c.inRange = true ↔
      (1 ≤ c.weekday ∧ c.weekday ≤ 7) ∧ c.hour ≤ 23 ∧ c.minute ≤ 59 ∧ c.second ≤ 59 := by
  simp [Clock.inRange, within_iff, and_assoc]

theorem Clock.advance_inRange {c : Clock} (h : c.inRange = true) : c.advance.inRange = true := by
  rw [Clock.inRange_iff] at h ⊢
  rw [Clock.advance]
  repeat' split
  all_goals dsimp only; omega

/-- The active occurrences decide the ceilings: windows that agree on them agree on the ceilings. -/
theorem quietCeiling_congr {ws vs : Table 8 Window} (k : ZoneIdx)
    (hactive : ∀ w, (vs.get w).remaining.isSome = (ws.get w).remaining.isSome)
    (hentry : ∀ w, (ws.get w).remaining.isSome = true → (vs.get w).entry = (ws.get w).entry) :
    quietCeiling vs k = quietCeiling ws k := by
  have hindices : (vs.indices fun w => w.remaining.isSome && w.entry.zones.getLsbD k.val) =
      ws.indices fun w => w.remaining.isSome && w.entry.zones.getLsbD k.val := by
    refine List.filter_congr fun w _ => ?_
    dsimp only
    rw [hactive w]
    cases h : (ws.get w).remaining.isSome
    · rfl
    · rw [hentry w h]
  rw [quietCeiling, quietCeiling, activeCeilings, activeCeilings, hindices]
  refine congrArg List.min? (List.map_congr_left fun w hw => ?_)
  rw [Table.mem_indices, Bool.and_eq_true] at hw
  rw [hentry w hw.1]

/-- The law of one window entry: its ranges, and an occurrence of 1 to 240 minutes of an enabled entry. -/
def Window.Lawful (v : Window) : Prop :=
  v.entry.inRange = true ∧ v.remaining.all (within 1 240) = true ∧ (v.remaining.isSome = true → v.entry.enabled = true)

@[simp] theorem Window.roll_entry (c : Clock) (v : Window) : (v.roll c).entry = v.entry := by
  rw [Window.roll]; split <;> rfl

theorem WindowEntry.duration_within {e : WindowEntry} (h : e.inRange = true) : within 1 240 e.duration = true := by
  simp only [WindowEntry.inRange, Bool.and_eq_true] at h
  obtain ⟨⟨-, hdur⟩, -⟩ := h
  exact hdur

theorem Window.Lawful.roll {v : Window} (h : v.Lawful) (c : Clock) : (v.roll c).Lawful := by
  obtain ⟨hentry, hleft, henabled⟩ := h
  refine ⟨by rwa [Window.roll_entry], ?_, ?_⟩ <;> rw [Window.roll] <;> split
  · exact WindowEntry.duration_within hentry
  · cases hm : v.remaining with
    | none => rfl
    | some m =>
      rw [hm] at hleft
      have hm240 := (within_iff.1 hleft).2
      simp only [Option.bind_some]
      split
      · rfl
      · exact within_iff.2 (by omega)
  next hmatch =>
    simp only [WindowEntry.matchesTime, Bool.and_eq_true] at hmatch
    exact fun _ => hmatch.1.1.1
  · intro hsome
    refine henabled ?_
    cases hm : v.remaining with
    | none => rw [hm] at hsome; exact hsome
    | some m => rfl

/-- The whole law, its part on each window named. -/
theorem tripsLaw_iff (s : State) :
    TripsLaw s ↔
      s.trips.clock.inRange = true ∧ (∀ w, (s.trips.windows.get w).Lawful) ∧
        (∀ k : ZoneIdx, s.trips.ceilings.get k = quietCeiling s.trips.windows k) ∧
        ∀ j : LineIdx, (s.trips.lines.get j).state = .armed → (s.trips.lines.get j).inputActive = false := Iff.rfl

theorem deriveCeilings_get (s : State) (k : ZoneIdx) :
    (deriveCeilings s).trips.ceilings.get k = quietCeiling s.trips.windows k := Table.get_tabulate _ k

theorem TripsLaw.setLine {s : State} (j : LineIdx) {ln : TripLine} (h : TripsLaw s)
    (hline : ln.state = .armed → ln.inputActive = false) : TripsLaw (setLine j ln s) := by
  obtain ⟨hclock, hwindows, hceilings, hlines⟩ := h
  refine ⟨hclock, hwindows, hceilings, fun m => ?_⟩
  simp only [Machine.setLine, Table.get_set]
  split
  · exact hline
  · exact hlines m

theorem TripsLaw.setWindow {s : State} (w : WindowIdx) {e : WindowEntry} (h : TripsLaw s)
    (he : e.inRange = true) :
    TripsLaw
      (windowEdited (s.trips.windows.get w).remaining.isSome (setWindowAt w { entry := e, remaining := none } s)) := by
  obtain ⟨hclock, hwindows, hceilings, hlines⟩ := h
  have hedited : ∀ v, ((setWindowAt w { entry := e, remaining := none } s).trips.windows.get v).Lawful := fun v => by
    simp only [setWindowAt, Table.get_set]
    split
    · exact ⟨he, rfl, fun hsome => absurd hsome (by simp)⟩
    · exact hwindows v
  rw [windowEdited]; split
  · exact ⟨hclock, hedited, deriveCeilings_get _, hlines⟩
  next hidle =>
    have hidle : (s.trips.windows.get w).remaining.isSome = false := Bool.eq_false_iff.2 hidle
    refine ⟨hclock, hedited, fun k => (hceilings k).trans (quietCeiling_congr k (fun v => ?_) fun v hv => ?_).symm, hlines⟩
    · simp only [setWindowAt, Table.get_set]
      split
      next hvw => rw [hvw, hidle]; rfl
      · rfl
    · have hvw : v ≠ w := fun hvw => by rw [hvw, hidle] at hv; cases hv
      simp only [setWindowAt, Table.get_set_ne _ _ hvw]

/-- A rollover that opens and ends no occurrence leaves each entry active or not, as it was. -/
theorem roll_isSome_eq {c : Clock} {ws : Table 8 Window} (hopens : opensAny c ws = false)
    (hends : endsAny c ws = false) (w : WindowIdx) :
    ((ws.get w).roll c).remaining.isSome = (ws.get w).remaining.isSome := by
  have hopen : ¬(ws.get w).opens c = true := fun h => by
    have hmem : w ∈ ws.indices (Window.opens c) := (Table.mem_indices _ _ _).2 h
    rw [opensAny, Bool.not_eq_false', List.isEmpty_iff] at hopens
    rw [hopens] at hmem
    cases hmem
  have hend : ¬(ws.get w).ends c = true := fun h => by
    have hmem : w ∈ ws.indices (Window.ends c) := (Table.mem_indices _ _ _).2 h
    rw [endsAny, Bool.not_eq_false', List.isEmpty_iff] at hends
    rw [hends] at hmem
    cases hmem
  rw [Window.opens] at hopen
  rw [Window.ends] at hend
  cases h : (ws.get w).remaining <;> cases g : ((ws.get w).roll c).remaining <;> simp [h, g] at hopen hend ⊢

theorem TripsLaw.rollWindows {s : State} (c : Clock) (h : TripsLaw s) : TripsLaw (rollWindows c s) := by
  obtain ⟨hclock, hwindows, hceilings, hlines⟩ := h
  have hrolled : ∀ w, ((rollEntries c s).trips.windows.get w).Lawful := fun w => by
    simp only [rollEntries, Table.get_map]
    exact Window.Lawful.roll (hwindows w) c
  rw [Machine.rollWindows, completeRollover]; split
  · refine TripsLaw.of_trips_eq (s := deriveCeilings (rollEntries c s)) ?_ (requestRoundIf_trips _ _)
    exact ⟨hclock, hrolled, deriveCeilings_get _, hlines⟩
  next hnone =>
    simp only [Bool.or_eq_true, not_or, Bool.not_eq_true] at hnone
    obtain ⟨hopens, hends⟩ := hnone
    refine ⟨hclock, hrolled, fun k => (hceilings k).trans (quietCeiling_congr k (fun w => ?_) fun w _ => ?_).symm, hlines⟩
    · simp only [rollEntries, Table.get_map]
      exact roll_isSome_eq hopens hends w
    · simp only [rollEntries, Table.get_map, Window.roll_entry]

theorem quietCeiling_of_idle {ws : Table 8 Window} (h : ∀ w, (ws.get w).remaining = none) (k : ZoneIdx) :
    quietCeiling ws k = none := by
  have hnone : (ws.indices fun w => w.remaining.isSome && w.entry.zones.getLsbD k.val) = [] :=
    List.filter_eq_nil_iff.2 fun w _ => by simp [h w]
  rw [quietCeiling, activeCeilings, hnone]
  rfl

/-- The windows after a load: entries within their ranges, none active. -/
theorem loadedTrips_windows {img : Option Image} (himg : ∀ m, img = some m → m.inRange = true) (trips : TripUnit)
    (w : WindowIdx) :
    (((loadedTrips img trips).windows.get w).entry.inRange = true) ∧ ((loadedTrips img trips).windows.get w).remaining = none := by
  cases img with
  | none => simp only [loadedTrips, Option.map_none, Option.getD_none, Table.get_fill]; decide
  | some m =>
    simp only [loadedTrips, Option.map_some, Option.getD_some, Table.get_map]
    exact ⟨((Image.inRange_iff m).1 (himg m rfl)).2.2.2.2 w, trivial⟩

theorem tripsLaw_loadedTrips {img : Option Image} (himg : ∀ m, img = some m → m.inRange = true) {trips : TripUnit}
    {s : State} (hs : s.trips = loadedTrips img trips) : TripsLaw s := by
  have hwindows := loadedTrips_windows himg trips
  rw [tripsLaw_iff, hs]
  refine ⟨rfl, fun w => ?_, fun k => ?_, fun j => ?_⟩
  · obtain ⟨hentry, hidle⟩ := hwindows w
    exact ⟨hentry, by rw [hidle]; rfl, by rw [hidle]; exact fun h => by cases h⟩
  · rw [quietCeiling_of_idle fun w => (hwindows w).2]
    exact Table.get_fill _ k
  · simp [loadedTrips]

theorem TripsLaw.decided {l : Link} {s t : State} (h : TripsLaw s) (hd : Decided l s t) : TripsLaw t := by
  cases hd
  case clock c hc =>
    obtain ⟨-, hwindows, hceilings, hlines⟩ := h
    exact ⟨hc, hwindows, hceilings, hlines⟩
  case window w e he => exact h.setWindow w he
  case reArm j hin => exact h.setLine j fun _ => hin
  case disarm j => exact h.setLine j fun harmed => by cases harmed
  all_goals exact h.of_trips_eq (by simp [commissioned])

theorem TripsLaw.latch {s : State} (j : LineIdx) (h : TripsLaw s) :
    TripsLaw (latchLine j (followContact j s)) := by
  let ln := { (followContact j s).trips.lines.get j with state := LineState.latched }
  refine TripsLaw.of_trips_eq (s := Machine.setLine j ln (followContact j s)) ?_ (by simp [latchLine, ln])
  obtain ⟨hclock, hwindows, hceilings, hlines⟩ := h
  refine ⟨hclock, hwindows, hceilings, fun m => ?_⟩
  simp only [Machine.setLine, followContact, Table.get_set]
  split
  · exact fun harmed => by cases harmed
  · exact hlines m

theorem kept_tripsLaw : Kept TripsLaw where
  queue _ h := h
  traffic _ _ _ _ h := h
  owner := kept_owner TripsLaw.decided
  reset {s} _ :=
    tripsLaw_loadedTrips (img := loadImage s.store.stored) (trips := s.trips) (fun _ hm => loadImage_inRange hm) rfl
  clearPoll h := h
  sendNext {s} h := h.of_trips_eq (sendNext_trips s)
  manifoldReply {s} r h := h.of_trips_eq (takeManifoldReply_trips s r)
  slotReply {s} i r _ h := h.of_trips_eq (takeSlotReply_trips s i r)
  missReply {s} a h := h.of_trips_eq (missReply_trips s a)
  roundEvent {s} h := h.of_trips_eq (roundEvent_trips s)
  takeOff _ _ h := h
  nextExpiry _ _ h := h
  restartTimer h := h
  release h := h
  clearMissed h := h
  issueAll {s} h := h.of_trips_eq (issueAll_trips s)
  takeGasBand _ h := h
  enterShutIn _ h := h
  travelTimeout {s} i _ h := h.of_trips_eq (stickAndIssue_trips s i)
  spendWatch h := h
  raiseAlarm _ h := h
  keySwitch _ h := h
  followKey h := h
  keyRelease {s} h := h.of_trips_eq (keyRelease_trips s)
  setContact {s} j _ h := h.setLine j (h.2.2.2 j)
  followContact {s} j hunarmed h :=
    h.setLine j fun harmed => Bool.eq_false_iff.2 fun hclosed => hunarmed ⟨hclosed, harmed⟩
  latch j h := h.latch j
  tick {s} h := by
    obtain ⟨hclock, hwindows, hceilings, hlines⟩ := h
    exact ⟨Clock.advance_inRange hclock, hwindows, hceilings, hlines⟩
  takeRollover c _ h := TripsLaw.rollWindows c h
  settle {s} _ h := h.of_trips_eq (settle_trips s)
  completeTest {s} _ h := h.of_trips_eq (completeTest_trips s)
  endPurge {s} _ h := h.of_trips_eq (endPurge_trips s)
  endWrite {s} crc bytes h := h.of_trips_eq (endWrite_trips s crc bytes)

/-- Settles O55: each of the four laws is kept by the traffic, the owners and the events. -/
theorem stepKeepsRanges : Obligations.StepKeepsRanges := fun _ _ ht =>
  ⟨fun h => kept_linesFollow.step h ht, fun h => kept_gasInRange.step h ht, fun h => kept_roundsInRange.step h ht,
    fun h => kept_tripsLaw.step h ht⟩

end Sys2Proof.Machine
end

section
/-! PROOFS. The Plan Table and the Scanner's care: both plans within their ranges, the roster law, and a head
and a record for each slot in service, kept by every step. -/

namespace Sys2Proof.Machine

/-! ## A reply of a slot's head, step by step (R29, R78) -/

/-- A taken reply recorded: the head RESPONDING, the reading record and the yield estimate renewed. -/
def replyRecorded (i : SlotIdx) (r : HeadReply) (s : State) : State :=
  setRoster i ((s.plan.roster.get i).updateYield r)
    (setRecord i (some (((s.scanner.records.get i).getD emptyRecord).take s.elapsed r))
      (setHead i (some freshHead) s))

/-- The steps of R78 before the completion of a retirement. -/
def positionTaken (i : SlotIdx) (p : Nat) (fault : Bool) (s : State) : State :=
  let t := takePosition i p s
  let t := if p ≤ 2 then sealSlot i t else t
  if fault then stickAndIssue i t else t

theorem takeSlotReply_of_inService {s : State} {i : SlotIdx} (h : inService s i = true) (r : HeadReply) :
    takeSlotReply i r s = reportPosition i r.position r.faults.valve (replyRecorded i r s) := by
  rw [takeSlotReply, if_pos h]
  rfl

@[simp] theorem positionTaken_plan (i : SlotIdx) (p : Nat) (fault : Bool) (s : State) :
    (positionTaken i p fault s).plan = s.plan := by
  simp only [positionTaken]
  repeat' split
  all_goals simp

@[simp] theorem positionTaken_scanner (i : SlotIdx) (p : Nat) (fault : Bool) (s : State) :
    (positionTaken i p fault s).scanner = s.scanner := by
  simp only [positionTaken]
  repeat' split
  all_goals simp

theorem reportPosition_eq (i : SlotIdx) (p : Nat) (fault : Bool) (s : State) :
    reportPosition i p fault s =
      if lifecycleOf s i = .retiring ∧ p ≤ 2 then retireDone i (positionTaken i p fault s)
      else positionTaken i p fault s := by
  have hlife : lifecycleOf (positionTaken i p fault s) i = lifecycleOf s i := by simp [lifecycleOf]
  rw [← hlife]
  simp only [reportPosition, Bool.and_eq_true, beq_iff_eq, decide_eq_true_eq]
  rfl

@[simp] theorem Roster.updateYield_lifecycle (r : HeadReply) (x : Roster) :
    (x.updateYield r).lifecycle = x.lifecycle := by
  rw [Roster.updateYield]; split <;> rfl

@[simp] theorem lifecycleOf_setRoster (i : SlotIdx) (r : Roster) (s : State) (j : SlotIdx) :
    lifecycleOf (setRoster i r s) j = if j = i then r.lifecycle else lifecycleOf s j := by
  simp only [lifecycleOf, setRoster_roster, Table.get_set]
  split <;> rfl

theorem lifecycleOf_congr {s t : State} (h : t.plan.roster = s.plan.roster) (i : SlotIdx) :
    lifecycleOf t i = lifecycleOf s i := by
  rw [lifecycleOf, lifecycleOf, h]

@[simp] theorem lifecycleOf_replyRecorded (i : SlotIdx) (r : HeadReply) (s : State) (j : SlotIdx) :
    lifecycleOf (replyRecorded i r s) j = lifecycleOf s j := by
  rw [replyRecorded, lifecycleOf_setRoster]
  split
  next h => rw [h]; exact Roster.updateYield_lifecycle r _
  · rfl

/-- A predicate kept by each step of R78 is kept by a slot's reply. -/
theorem kept_slotReply {P : State → Prop}
    (recorded : ∀ {s} i r, inService s i = true → P s → P (replyRecorded i r s))
    (positioned : ∀ {s} i p, P s → P (takePosition i p s)) (marked : ∀ {s} i, P s → P (sealSlot i s))
    (stuck : ∀ {s} i, inService s i = true → P s → P (stickAndIssue i s))
    (retired : ∀ {s} i, lifecycleOf s i = .retiring → P s → P (retireDone i s)) {s : State} (i : SlotIdx)
    (r : HeadReply) (hi : inService s i = true) (h : P s) : P (takeSlotReply i r s) := by
  have htaken : P (positionTaken i r.position r.faults.valve (replyRecorded i r s)) := by
    have hservice : ∀ t : State, t.plan = (replyRecorded i r s).plan → inService t i = true := fun t ht => by
      rw [inService, lifecycleOf_congr (congrArg PlanTable.roster ht), lifecycleOf_replyRecorded]
      exact hi
    have hposition := positioned i r.position (recorded i r hi h)
    simp only [positionTaken]
    split
    · refine stuck i (hservice _ ?_) ?_
      · split <;> simp
      · split
        exacts [marked i hposition, hposition]
    · split
      exacts [marked i hposition, hposition]
  rw [takeSlotReply_of_inService hi, reportPosition_eq]
  split
  next hretire =>
    exact retired i ((lifecycleOf_congr (congrArg PlanTable.roster (positionTaken_plan _ _ _ _)) i).trans hretire.1)
      htaken
  · exact htaken

/-! ## Round events and the plan table -/

@[simp] theorem roundEvent_plan (s : State) : (roundEvent s).plan = (completeAdoption s).plan := by
  simp [roundEvent]

theorem completeAdoption_of_editable {s : State} (h : s.plan.adoption = .editable) : completeAdoption s = s := by
  rw [completeAdoption, h]

/-- The copy of an adoption: the plan, the notice and the queues, before any move is timed out (R11, R13). -/
def copyPlan (s : State) : State :=
  migrateQueues
    (raise .planAdopted { s with plan := { s.plan with active := s.plan.pendingPlan, adoption := .editable } })

theorem completeAdoption_of_adopting {s : State} (h : s.plan.adoption = .adopting) :
    completeAdoption s =
      (allSlots.filter (moveExpired (copyPlan s))).foldl (fun t i => stickValve i t) (copyPlan s) := by
  rw [completeAdoption, h]
  rfl

theorem completeAdoption_plan_of_adopting {s : State} (h : s.plan.adoption = .adopting) :
    (completeAdoption s).plan = { s.plan with active := s.plan.pendingPlan, adoption := .editable } := by
  rw [completeAdoption_of_adopting h, foldl_stickValve_plan]
  rfl

@[simp] theorem completeAdoption_roster (s : State) : (completeAdoption s).plan.roster = s.plan.roster := by
  cases h : s.plan.adoption with
  | editable => rw [completeAdoption_of_editable h]
  | adopting => rw [completeAdoption_plan_of_adopting h]

theorem roundEvent_roster (s : State) : (roundEvent s).plan.roster = s.plan.roster := by simp

/-! ## The ranges of the plans (R3 to R8, R10) -/

theorem PlansInRange.of_plans {s t : State} (h : PlansInRange s) (hactive : t.plan.active = s.plan.active)
    (hpending : t.plan.pendingPlan = s.plan.pendingPlan) (hadoption : t.plan.adoption = s.plan.adoption) :
    PlansInRange t := by
  unfold PlansInRange at h ⊢
  rw [hactive, hpending, hadoption]
  exact h

theorem PlansInRange.of_plan_eq {s t : State} (h : PlansInRange s) (hplan : t.plan = s.plan) : PlansInRange t :=
  h.of_plans (by rw [hplan]) (by rw [hplan]) (by rw [hplan])

theorem PlansInRange.roundEvent {s : State} (h : PlansInRange s) : PlansInRange (roundEvent s) := by
  cases hadoption : s.plan.adoption with
  | editable => exact h.of_plan_eq (by rw [roundEvent_plan, completeAdoption_of_editable hadoption])
  | adopting =>
    obtain ⟨-, -, hpending, hvalid⟩ := h
    rw [PlansInRange, roundEvent_plan, completeAdoption_plan_of_adopting hadoption]
    exact ⟨hpending, hvalid hadoption, hpending, fun hno => by cases hno⟩

theorem PlansInRange.decided {l : Link} {s t : State} (h : PlansInRange s) (hd : Decided l s t) :
    PlansInRange t := by
  cases hd
  case pendingPlan pl hed hpl =>
    obtain ⟨hactive, hvalid, hpending, -⟩ := h
    exact ⟨hactive, hvalid, hpl hactive hpending, fun hno => by cases hed.symm.trans hno⟩
  case adopting hed hvalid =>
    obtain ⟨hactive, hok, hpending, -⟩ := h
    exact ⟨hactive, hok, hpending, fun _ => hvalid⟩
  case commission | reclaim | manual => exact h
  case retire i _ _ _ => exact PlansInRange.of_plan_eq (s := setRoster i _ s) h (closeSlot_plan _ _)
  all_goals exact h.of_plan_eq (by simp)

theorem defaultPlan_inRange : defaultPlan.inRange = true := by
  rw [Plan.inRange_iff]
  refine ⟨by decide, by decide, by decide, fun k => ?_, fun i => ?_⟩
  · simp only [defaultPlan, Table.get_tabulate, ZoneRecord.inRange, defaultZone, Bool.and_eq_true, within_iff]
    omega
  · simp only [defaultPlan, Table.get_fill]; decide

/-- The plan that a load takes is within its ranges and valid, the image's or the defaults. -/
theorem loadedPlan_inRange {img : Option Image} (himg : ∀ m, img = some m → m.inRange = true) :
    (loadedPlan img).active.inRange = true ∧ (loadedPlan img).active.valid = true := by
  cases img with
  | none => exact ⟨defaultPlan_inRange, by decide⟩
  | some m =>
    obtain ⟨hplan, hvalid, -⟩ := (Image.inRange_iff m).1 (himg m rfl)
    exact ⟨hplan, hvalid⟩

theorem plansInRange_resetPart (s : State) : PlansInRange (resetPart s) := by
  obtain ⟨hrange, hvalid⟩ := loadedPlan_inRange (img := loadImage s.store.stored) fun _ => loadImage_inRange
  exact ⟨hrange, hvalid, hrange, fun hno => by cases hno⟩

theorem kept_plansInRange : Kept PlansInRange where
  queue _ h := h
  traffic _ _ _ _ h := h
  owner := kept_owner PlansInRange.decided
  reset {s} _ := plansInRange_resetPart s
  clearPoll h := h
  sendNext {s} h := h.of_plan_eq (sendNext_plan s)
  manifoldReply {s} r h := h.of_plan_eq (takeManifoldReply_plan s r)
  slotReply :=
    kept_slotReply (fun _ _ _ h => h) (fun i p h => h.of_plan_eq (takePosition_plan _ i p))
      (fun i h => h.of_plan_eq (sealSlot_plan _ i)) (fun i _ h => h.of_plan_eq (stickAndIssue_plan _ i))
      fun _ _ h => h
  missReply {s} a h := h.of_plan_eq (missReply_plan s a)
  roundEvent h := h.roundEvent
  takeOff _ _ h := h
  nextExpiry _ _ h := h
  restartTimer h := h
  release h := h
  clearMissed h := h
  issueAll {s} h := h.of_plan_eq (issueAll_plan s)
  takeGasBand _ h := h
  enterShutIn _ h := h
  travelTimeout {s} i _ h := h.of_plan_eq (stickAndIssue_plan s i)
  spendWatch h := h
  raiseAlarm _ h := h
  keySwitch _ h := h
  followKey h := h
  keyRelease {s} h := PlansInRange.of_plans h (by simp [keyRelease]) (by simp [keyRelease]) (by simp [keyRelease])
  setContact _ _ h := h
  followContact _ _ h := h
  latch {s} j h := PlansInRange.of_plan_eq (s := followContact j s) h (latchLine_plan _ j)
  tick h := h
  takeRollover c _ h := PlansInRange.of_plan_eq h (rollWindows_plan _ c)
  settle {s} _ h := h.of_plan_eq (settle_plan s)
  completeTest {s} _ h := h.of_plan_eq (completeTest_plan s)
  endPurge {s} _ h := h.of_plan_eq (endPurge_plan s)
  endWrite {s} crc bytes h := h.of_plan_eq (endWrite_plan s crc bytes)

/-! ## The roster law (R14) -/

/-- The law of one roster record. -/
def Roster.Lawful (r : Roster) : Prop :=
  r.yieldEst.isSome = r.lifecycle.inService ∧ yieldOk r.yieldEst = true ∧
    r.commissioned.isSome = r.lifecycle.inService ∧ modeOk r.lifecycle r.mode = true

theorem rosterLaw_iff (s : State) : RosterLaw s ↔ ∀ i, (s.plan.roster.get i).Lawful := Iff.rfl

theorem RosterLaw.of_roster_eq {s t : State} (h : RosterLaw s) (hroster : t.plan.roster = s.plan.roster) :
    RosterLaw t := by
  rw [rosterLaw_iff, hroster]
  exact h

theorem RosterLaw.of_plan_eq {s t : State} (h : RosterLaw s) (hplan : t.plan = s.plan) : RosterLaw t :=
  h.of_roster_eq (by rw [hplan])

/-- A lawful record written for one slot keeps the law. -/
theorem RosterLaw.setRoster {s t : State} {i : SlotIdx} {r : Roster} (h : RosterLaw s)
    (ht : t.plan.roster = s.plan.roster.set i r) (hr : r.Lawful) : RosterLaw t := fun j => by
  rw [ht, Table.get_set]
  split
  · exact hr
  · exact h j

theorem blendYield_within {old q p : Nat} (h : within 1 20000 old = true) :
    within 1 20000 (blendYield old q p) = true := by
  rw [within_iff] at h ⊢
  rw [blendYield]
  omega

theorem Roster.Lawful.updateYield {x : Roster} (h : x.Lawful) (r : HeadReply) : (x.updateYield r).Lawful := by
  rw [Roster.updateYield]; split
  · obtain ⟨hsome, hyield, hcomm, hmode⟩ := h
    refine ⟨by simpa using hsome, ?_, hcomm, hmode⟩
    cases hy : x.yieldEst with
    | none => rfl
    | some y =>
      rw [hy] at hyield
      exact blendYield_within hyield
  · exact h

/-- A record AUTO instead of MANUAL is lawful. -/
theorem Roster.Lawful.auto {x : Roster} (h : x.Lawful) : ({ x with mode := .auto } : Roster).Lawful :=
  ⟨h.1, h.2.1, h.2.2.1, rfl⟩

theorem RosterLaw.decided {l : Link} {s t : State} (h : RosterLaw s) (hd : Decided l s t) : RosterLaw t := by
  cases hd
  case commission i seed hseed _ => exact h.setRoster (i := i) rfl ⟨rfl, hseed, rfl, rfl⟩
  case retire i hlife _ _ =>
    obtain ⟨hsome, hyield, hcomm, -⟩ := h i
    rw [show (s.plan.roster.get i).lifecycle = .active from hlife] at hsome hcomm
    exact h.setRoster (i := i) (congrArg PlanTable.roster (closeSlot_plan _ _)) ⟨hsome, hyield, hcomm, rfl⟩
  case reclaim i hlife =>
    obtain ⟨hsome, hyield, hcomm, hmode⟩ := h i
    rw [show (s.plan.roster.get i).lifecycle = .retired from hlife] at hsome hcomm hmode
    refine h.setRoster (i := i) rfl ⟨hsome, hyield, hcomm, ?_⟩
    cases hm : (s.plan.roster.get i).mode with
    | auto => rfl
    | manual setpoint => simp [hm, modeOk] at hmode
  case manual i m hlife hm =>
    obtain ⟨hsome, hyield, hcomm, -⟩ := h i
    refine h.setRoster (i := i) rfl ⟨hsome, hyield, hcomm, ?_⟩
    rw [show (s.plan.roster.get i).lifecycle = .active from hlife]
    exact hm
  case pendingPlan | adopting => exact h
  all_goals exact h.of_plan_eq (by simp)

theorem loadedRoster_lawful {x : Lifecycle × Option Nat} (h : lifeInRange x = true) : (loadedRoster x).Lawful := by
  obtain ⟨life, y⟩ := x
  cases y <;> cases life <;> simp_all [lifeInRange, loadedRoster, Roster.Lawful, yieldOk, modeOk, Lifecycle.inService]

theorem rosterLaw_resetPart (s : State) : RosterLaw (resetPart s) := by
  have hloaded : ∀ i, ((loadedPlan (loadImage s.store.stored)).roster.get i).Lawful := fun i => by
    cases himg : loadImage s.store.stored with
    | none =>
      simp only [loadedPlan, Option.map_none, Option.getD_none, Table.get_fill]
      exact ⟨rfl, rfl, rfl, rfl⟩
    | some m =>
      simp only [loadedPlan, Option.map_some, Option.getD_some, Table.get_map]
      exact loadedRoster_lawful (((Image.inRange_iff m).1 (loadImage_inRange himg)).2.2.1 i)
  exact hloaded

theorem RosterLaw.retireDone {s : State} (i : SlotIdx) (hlife : lifecycleOf s i = .retiring) (h : RosterLaw s) :
    RosterLaw (retireDone i s) := by
  obtain ⟨-, -, -, hmode⟩ := h i
  rw [show (s.plan.roster.get i).lifecycle = .retiring from hlife] at hmode
  refine h.setRoster (i := i) rfl ⟨rfl, rfl, rfl, ?_⟩
  cases hm : (s.plan.roster.get i).mode with
  | auto => rfl
  | manual setpoint => simp [hm, modeOk] at hmode

theorem keyRelease_roster_get (s : State) (i : SlotIdx) :
    (keyRelease s).plan.roster.get i =
      if releasedByKey s i then { s.plan.roster.get i with mode := .auto } else s.plan.roster.get i := by
  rw [keyRelease, closeSlots_plan]
  exact Table.get_tabulate _ i

theorem kept_rosterLaw : Kept RosterLaw where
  queue _ h := h
  traffic _ _ _ _ h := h
  owner := kept_owner RosterLaw.decided
  reset {s} _ := rosterLaw_resetPart s
  clearPoll h := h
  sendNext {s} h := h.of_plan_eq (sendNext_plan s)
  manifoldReply {s} r h := h.of_plan_eq (takeManifoldReply_plan s r)
  slotReply :=
    kept_slotReply (fun i r _ h => h.setRoster (i := i) rfl (Roster.Lawful.updateYield (h i) r))
      (fun i p h => h.of_plan_eq (takePosition_plan _ i p)) (fun i h => h.of_plan_eq (sealSlot_plan _ i))
      (fun i _ h => h.of_plan_eq (stickAndIssue_plan _ i)) fun i hlife h => h.retireDone i hlife
  missReply {s} a h := h.of_plan_eq (missReply_plan s a)
  roundEvent {s} h := h.of_roster_eq (roundEvent_roster s)
  takeOff _ _ h := h
  nextExpiry _ _ h := h
  restartTimer h := h
  release h := h
  clearMissed h := h
  issueAll {s} h := h.of_plan_eq (issueAll_plan s)
  takeGasBand _ h := h
  enterShutIn _ h := h
  travelTimeout {s} i _ h := h.of_plan_eq (stickAndIssue_plan s i)
  spendWatch h := h
  raiseAlarm _ h := h
  keySwitch _ h := h
  followKey h := h
  keyRelease {s} h i := by
    rw [keyRelease_roster_get]; split
    · exact Roster.Lawful.auto (h i)
    · exact h i
  setContact _ _ h := h
  followContact _ _ h := h
  latch {s} j h := RosterLaw.of_plan_eq (s := followContact j s) h (latchLine_plan _ j)
  tick h := h
  takeRollover c _ h := RosterLaw.of_plan_eq h (rollWindows_plan _ c)
  settle {s} _ h := h.of_plan_eq (settle_plan s)
  completeTest {s} _ h := h.of_plan_eq (completeTest_plan s)
  endPurge {s} _ h := h.of_plan_eq (endPurge_plan s)
  endWrite {s} crc bytes h := h.of_plan_eq (endWrite_plan s crc bytes)

/-! ## The Scanner's care (R26, R27, R29, R33) -/

/-- The law of one slot: a lawful head and a record exactly while it is in service. -/
def CaredFor (s : State) (i : SlotIdx) : Prop :=
  (s.scanner.heads.get i).isSome = inService s i ∧ (s.scanner.records.get i).isSome = inService s i ∧
    ((s.scanner.heads.get i).all Head.lawful) = true

theorem inService_congr {s t : State} {i : SlotIdx} (h : lifecycleOf t i = lifecycleOf s i) :
    inService t i = inService s i := by rw [inService, inService, h]

theorem CaredFor.of_eq {s t : State} {i : SlotIdx} (h : CaredFor s i)
    (hhead : t.scanner.heads.get i = s.scanner.heads.get i)
    (hrecord : t.scanner.records.get i = s.scanner.records.get i) (hservice : inService t i = inService s i) :
    CaredFor t i := by
  rw [CaredFor, hhead, hrecord, hservice]
  exact h

theorem ScannerLaw.of_eq {s t : State} (h : ScannerLaw s) (hscanner : t.scanner = s.scanner)
    (hservice : ∀ i, inService t i = inService s i) : ScannerLaw t :=
  ⟨by rw [hscanner]; exact h.1, fun i =>
    CaredFor.of_eq (h.2 i) (by rw [hscanner]) (by rw [hscanner]) (hservice i)⟩

theorem ScannerLaw.of_scanner_plan {s t : State} (h : ScannerLaw s) (hscanner : t.scanner = s.scanner)
    (hplan : t.plan = s.plan) : ScannerLaw t :=
  h.of_eq hscanner fun _ => inService_congr (lifecycleOf_congr (by rw [hplan]) _)

/-- Only one slot's care changed. -/
theorem ScannerLaw.of_one {s t : State} (i : SlotIdx) (h : ScannerLaw s)
    (hmanifold : t.scanner.manifoldHead = s.scanner.manifoldHead) (hi : CaredFor t i)
    (hothers : ∀ j, j ≠ i → t.scanner.heads.get j = s.scanner.heads.get j ∧
      t.scanner.records.get j = s.scanner.records.get j ∧ inService t j = inService s j) : ScannerLaw t := by
  refine ⟨by rw [hmanifold]; exact h.1, fun j => ?_⟩
  by_cases hj : j = i
  · rw [hj]; exact hi
  · obtain ⟨hhead, hrecord, hservice⟩ := hothers j hj
    exact CaredFor.of_eq (h.2 j) hhead hrecord hservice

theorem Head.lawful_miss {h : Head} (hl : h.lawful = true) : h.miss.lawful = true := by
  obtain ⟨state, misses⟩ := h
  cases state
  · rw [Head.miss]
    dsimp only
    split
    next hfew =>
      simp only [Head.lawful, Bool.and_eq_true, decide_eq_true_eq, beq_iff_eq] at hl ⊢
      refine ⟨by omega, ?_⟩
      rw [Bool.eq_iff_iff]
      simp
      omega
    · rfl
  · exact hl

theorem ScannerLaw.sendNext {s : State} (h : ScannerLaw s) : ScannerLaw (sendNext s) := by
  obtain ⟨hheads, hrecords, hmanifold, -⟩ := nextPoll_scanner s.scanner.remaining s
  exact ⟨hmanifold ▸ h.1, fun i =>
    CaredFor.of_eq (h.2 i) (congrArg (·.get i) hheads) (congrArg (·.get i) hrecords)
      (inService_congr (lifecycleOf_congr (by rw [sendNext_plan]) _))⟩

theorem ScannerLaw.missReply {s : State} (a : HeadAddr) (h : ScannerLaw s) : ScannerLaw (missReply a s) := by
  simp only [Machine.missReply]; split
  · refine ScannerLaw.of_scanner_plan (s := { s with scanner := { s.scanner with manifoldHead := _ } })
      ⟨Head.lawful_miss h.1, h.2⟩ (raiseIf_scanner _ _ _) (raiseIf_plan _ _ _)
  next i =>
    split
    · exact h
    next hd hhead =>
      obtain ⟨hhas, hrec, hlaw⟩ := h.2 i
      rw [hhead] at hhas hlaw
      have hmissed : ScannerLaw (setHead i (some hd.miss) s) := by
        refine h.of_one i rfl ⟨?_, hrec, ?_⟩ fun j hj => ⟨?_, rfl, rfl⟩
        · rw [setHead_heads, Table.get_set_self]; exact hhas
        · rw [setHead_heads, Table.get_set_self]; exact Head.lawful_miss hlaw
        · rw [setHead_heads, Table.get_set_ne _ _ hj]
      split
      · exact hmissed.of_scanner_plan (dropSilent_scanner _ _) (dropSilent_plan _ _)
      · exact hmissed

theorem ScannerLaw.replyRecorded {s : State} (i : SlotIdx) (r : HeadReply) (hi : inService s i = true)
    (h : ScannerLaw s) : ScannerLaw (replyRecorded i r s) := by
  have hservice : ∀ j, inService (Machine.replyRecorded i r s) j = inService s j := fun j =>
    inService_congr (lifecycleOf_replyRecorded i r s j)
  refine h.of_one i rfl ⟨?_, ?_, ?_⟩ fun j hj => ⟨Table.get_set_ne _ _ hj, Table.get_set_ne _ _ hj, hservice j⟩
  · rw [hservice, hi]; exact congrArg Option.isSome (Table.get_set_self _ i _)
  · rw [hservice, hi]; exact congrArg Option.isSome (Table.get_set_self _ i _)
  · exact congrArg (Option.all Head.lawful) (Table.get_set_self _ i _)

theorem ScannerLaw.retireDone {s : State} (i : SlotIdx) (h : ScannerLaw s) : ScannerLaw (retireDone i s) := by
  have hlife : ∀ j, lifecycleOf (Machine.retireDone i s) j = if j = i then .retired else lifecycleOf s j :=
    lifecycleOf_setRoster i _ s
  have hout : inService (Machine.retireDone i s) i = false := by rw [inService, hlife, if_pos rfl]; rfl
  refine h.of_one i rfl ⟨?_, ?_, ?_⟩ fun j hj =>
    ⟨Table.get_set_ne _ _ hj, Table.get_set_ne _ _ hj, inService_congr (by rw [hlife, if_neg hj])⟩
  · rw [hout]; exact congrArg Option.isSome (Table.get_set_self _ i _)
  · rw [hout]; exact congrArg Option.isSome (Table.get_set_self _ i _)
  · exact congrArg (Option.all Head.lawful) (Table.get_set_self _ i _)

theorem ScannerLaw.commissioned {s : State} (i : SlotIdx) (seed : Nat) (h : ScannerLaw s) :
    ScannerLaw (commissioned i seed s) := by
  have hlife : ∀ j, lifecycleOf (Machine.commissioned i seed s) j = if j = i then .active else lifecycleOf s j :=
    lifecycleOf_setRoster i _ s
  have hin : inService (Machine.commissioned i seed s) i = true := by rw [inService, hlife, if_pos rfl]; rfl
  refine h.of_one i rfl ⟨?_, ?_, ?_⟩ fun j hj =>
    ⟨Table.get_set_ne _ _ hj, Table.get_set_ne _ _ hj, inService_congr (by rw [hlife, if_neg hj])⟩
  · rw [hin]; exact congrArg Option.isSome (Table.get_set_self _ i _)
  · rw [hin]; exact congrArg Option.isSome (Table.get_set_self _ i _)
  · exact congrArg (Option.all Head.lawful) (Table.get_set_self _ i _)

/-- A slot's roster record written again with a lifecycle in service as before. -/
theorem ScannerLaw.setRoster {s t : State} {i : SlotIdx} {r : Roster} (h : ScannerLaw s)
    (hscanner : t.scanner = s.scanner) (ht : t.plan.roster = s.plan.roster.set i r)
    (hr : r.lifecycle.inService = inService s i) : ScannerLaw t :=
  h.of_eq hscanner fun j => by
    rw [inService, lifecycleOf, ht, Table.get_set]
    split
    next hj => rw [hj]; exact hr
    · rfl

theorem ScannerLaw.decided {l : Link} {s t : State} (h : ScannerLaw s) (hd : Decided l s t) : ScannerLaw t := by
  cases hd
  case commission i seed _ _ => exact h.commissioned i seed
  case retire i hlife _ _ =>
    exact h.setRoster (i := i) (closeSlot_scanner _ _) (congrArg PlanTable.roster (closeSlot_plan _ _))
      (by rw [inService, hlife]; rfl)
  case reclaim i hlife => exact h.setRoster (i := i) rfl rfl (by rw [inService, hlife]; rfl)
  case manual i m hlife hm => exact h.setRoster (i := i) rfl rfl rfl
  case pendingPlan | adopting => exact h
  all_goals exact h.of_scanner_plan (by simp) (by simp)

theorem scannerLaw_resetPart (s : State) : ScannerLaw (resetPart s) := by
  refine ⟨rfl, fun i => ?_⟩
  have hservice : inService (resetPart s) i =
      ((loadedPlan (loadImage s.store.stored)).roster.get i).lifecycle.inService := rfl
  rw [hservice]
  simp only [resetPart, startCycle, sendPoll, closeManifold_scanner, loadedPart, Table.get_map]
  cases ((loadedPlan (loadImage s.store.stored)).roster.get i).lifecycle.inService <;> exact ⟨rfl, rfl, rfl⟩

theorem lifecycleOf_keyRelease (s : State) (i : SlotIdx) : lifecycleOf (keyRelease s) i = lifecycleOf s i := by
  rw [lifecycleOf, keyRelease_roster_get]
  split <;> rfl

theorem kept_scannerLaw : Kept ScannerLaw where
  queue _ h := h
  traffic _ _ _ _ h := h
  owner := kept_owner ScannerLaw.decided
  reset {s} _ := scannerLaw_resetPart s
  clearPoll h := h
  sendNext h := h.sendNext
  manifoldReply {s} r h :=
    ScannerLaw.of_scanner_plan
      (s :=
        { s with
          scanner :=
            { s.scanner with manifoldHead := freshHead, manifold := s.scanner.manifold.take s.elapsed r } })
      ⟨rfl, h.2⟩ (deliver_scanner _ _) (takeManifoldReply_plan s r)
  slotReply :=
    kept_slotReply (fun i r hi h => h.replyRecorded i r hi)
      (fun i p h => h.of_scanner_plan (takePosition_scanner _ i p) (takePosition_plan _ i p))
      (fun i h => h.of_scanner_plan (sealSlot_scanner _ i) (sealSlot_plan _ i))
      (fun i _ h => h.of_scanner_plan (stickAndIssue_scanner _ i) (stickAndIssue_plan _ i))
      fun i _ h => h.retireDone i
  missReply a h := h.missReply a
  roundEvent {s} h :=
    h.of_eq (roundEvent_scanner s) fun _ => inService_congr (lifecycleOf_congr (roundEvent_roster s) _)
  takeOff _ _ h := h
  nextExpiry _ _ h := h
  restartTimer h := h
  release h := h
  clearMissed h := h
  issueAll {s} h := h.of_scanner_plan (issueAll_scanner s) (issueAll_plan s)
  takeGasBand _ h := h
  enterShutIn _ h := h
  travelTimeout {s} i _ h := h.of_scanner_plan (stickAndIssue_scanner s i) (stickAndIssue_plan s i)
  spendWatch h := h
  raiseAlarm _ h := h
  keySwitch _ h := h
  followKey h := h
  keyRelease {s} h := h.of_eq (keyRelease_scanner s) fun i => inService_congr (lifecycleOf_keyRelease s i)
  setContact _ _ h := h
  followContact _ _ h := h
  latch {s} j h :=
    ScannerLaw.of_scanner_plan (s := followContact j s) h (latchLine_scanner _ j) (latchLine_plan _ j)
  tick h := h
  takeRollover c _ h := ScannerLaw.of_scanner_plan h (rollWindows_scanner _ c) (rollWindows_plan _ c)
  settle {s} _ h := h.of_scanner_plan (settle_scanner s) (settle_plan s)
  completeTest {s} _ h := h.of_scanner_plan (completeTest_scanner s) (completeTest_plan s)
  endPurge {s} _ h := h.of_scanner_plan (endPurge_scanner s) (endPurge_plan s)
  endWrite {s} crc bytes h := h.of_scanner_plan (endWrite_scanner s crc bytes) (endWrite_plan s crc bytes)

/-- Settles O56: each of the three laws is kept by the traffic, the owners and the events. -/
theorem stepKeepsPlanTable : Obligations.StepKeepsPlanTable := fun _ _ ht =>
  ⟨fun h => kept_plansInRange.step h ht, fun h => kept_rosterLaw.step h ht, fun h => kept_scannerLaw.step h ht⟩

end Sys2Proof.Machine
end

section
/-! PROOFS. The store, the closed manifold and the times of the part, kept by every step. -/

namespace Sys2Proof.Machine

/-! ## Composite operations of valve motion

A predicate kept by each part of an operation is kept by the operation. -/

section Composite

variable {P : State → Prop}

theorem kept_issueAll (issued : ∀ {s} k, P s → P (issueZone k s)) {s : State} (h : P s) : P (issueAll s) := by
  have hall : ∀ (ks : List ZoneIdx) {s}, P s → P (ks.foldl (fun s k => issueZone k s) s) := fun ks => by
    induction ks with
    | nil => exact id
    | cons k ks ih => exact fun h => ih (issued k h)
  exact hall allZones h

theorem kept_stickAndIssue (issued : ∀ {s} k, P s → P (issueZone k s)) {s : State} (i : SlotIdx)
    (stuck : P (stickValve i s)) (h : P s) : P (stickAndIssue i s) := by
  rw [stickAndIssue]; split
  · exact h
  · exact issued _ stuck

theorem kept_foldl_stickValve (stuck : ∀ {s} i, P s → P (stickValve i s)) (is : List SlotIdx) {s : State} (h : P s) :
    P (is.foldl (fun t i => stickValve i t) s) := by
  induction is generalizing s with
  | nil => exact h
  | cons i is ih => exact ih (stuck i h)

/-- A round event in its steps: the copy of the plan with its timeouts, the round or the missed flag, the issues. -/
theorem kept_roundEvent (issued : ∀ {s} k, P s → P (issueZone k s))
    (adopted : ∀ {s}, s.plan.adoption = .adopting → P s → P (completeAdoption s))
    (computed : ∀ {s}, s.rounds.allocator = .running → P s → P (computeRound s))
    (missed : ∀ {s}, P s → P (markMissed s)) {s : State} (h : P s) : P (roundEvent s) := by
  have hadopted : P (completeAdoption s) := by
    cases ha : s.plan.adoption with
    | editable => rwa [completeAdoption_of_editable ha]
    | adopting => exact adopted ha h
  refine kept_issueAll issued ?_
  rw [computeOrMiss]; split
  next hrun => exact computed (beq_iff_eq.1 hrun) hadopted
  · exact missed hadopted

end Composite

/-! ## The store (R160 to R162) -/

/-- The law of the Plan Store, over its own state: what holds of a write in progress. -/
structure Store.Lawful (st : Store) : Prop where
  writing : ∀ captured crc writeEnd, st.state = .writing captured crc writeEnd →
    st.stored.markedValid = false ∧ crc = crc32 captured.bytes

/-- The law of a state's store. -/
def StoreLawful (s : State) : Prop := s.store.Lawful

theorem storeLaw_iff (s : State) : StoreLaw s ↔ StoreLawful s := by
  rw [StoreLaw, StoreLawful]
  constructor
  · exact fun h => ⟨fun captured crc writeEnd hw => by rw [hw] at h; exact h⟩
  · intro ⟨h⟩
    split
    · trivial
    next captured crc writeEnd hw => exact h captured crc writeEnd hw

theorem StoreLawful.of_store_eq {s t : State} (h : StoreLawful s) (hstore : t.store = s.store) : StoreLawful t := by
  rw [StoreLawful, hstore]
  exact h

theorem storeLawful_beginWrite (s : State) : StoreLawful (beginWrite s) := by
  constructor
  intro captured crc writeEnd hw
  simp only [beginWrite, StoreState.writing.injEq] at hw ⊢
  obtain ⟨rfl, rfl, -⟩ := hw
  exact ⟨trivial, rfl⟩

theorem storeLawful_of_idle {s : State} (h : s.store.state = .idle) : StoreLawful s :=
  ⟨fun _ _ _ hw => by rw [h] at hw; cases hw⟩

theorem StoreLawful.decided {l : Link} {s t : State} (h : StoreLawful s) (hd : Decided l s t) : StoreLawful t := by
  cases hd
  case store => exact storeLawful_beginWrite s
  all_goals exact h.of_store_eq (by simp [commissioned])

theorem kept_storeLawful : Kept StoreLawful where
  queue _ h := h
  traffic _ _ _ _ h := h
  owner := kept_owner StoreLawful.decided
  reset _ := storeLawful_of_idle rfl
  clearPoll h := h
  sendNext {s} h := h.of_store_eq (sendNext_store s)
  manifoldReply {s} r h := h.of_store_eq (takeManifoldReply_store s r)
  slotReply {s} i r _ h := h.of_store_eq (takeSlotReply_store s i r)
  missReply {s} a h := h.of_store_eq (missReply_store s a)
  roundEvent {s} h := h.of_store_eq (roundEvent_store s)
  takeOff _ _ h := h
  nextExpiry _ _ h := h
  restartTimer h := h
  release h := h
  clearMissed h := h
  issueAll {s} h := h.of_store_eq (issueAll_store s)
  takeGasBand _ h := h
  enterShutIn _ h := h
  travelTimeout {s} i _ h := h.of_store_eq (stickAndIssue_store s i)
  spendWatch h := h
  raiseAlarm _ h := h
  keySwitch _ h := h
  followKey h := h
  keyRelease {s} h := h.of_store_eq (keyRelease_store s)
  setContact _ _ h := h
  followContact _ _ h := h
  latch {s} j h := StoreLawful.of_store_eq (s := followContact j s) h (latchLine_store _ j)
  tick h := h
  takeRollover c _ h := StoreLawful.of_store_eq h (rollWindows_store _ c)
  settle {s} _ h := h.of_store_eq (settle_store s)
  completeTest {s} _ h := h.of_store_eq (completeTest_store s)
  endPurge {s} _ h := h.of_store_eq (endPurge_store s)
  endWrite _ _ _ := storeLawful_of_idle rfl

/-! ## The closed manifold (R49) -/

/-- Every target and commanded position is 0 and every queue is empty. -/
def Shut (s : State) : Prop :=
  (∀ i : SlotIdx, (valveOf s i).target = 0 ∧ (valveOf s i).commanded = 0) ∧ ∀ k : ZoneIdx, s.motion.queues.get k = []

theorem closedLaw_iff (s : State) : ClosedLaw s ↔ (manifoldClosed s = true → Shut s) := Iff.rfl

theorem Shut.of_motion_eq {s t : State} (h : Shut s) (hmotion : t.motion = s.motion) : Shut t := by
  unfold Shut valveOf at h ⊢
  rw [hmotion]
  exact h

/-- A shut manifold has no entry to issue. -/
theorem Shut.issueZone {s : State} (h : Shut s) (k : ZoneIdx) : issueZone k s = s := by
  rw [Machine.issueZone, h.2 k]
  rfl

theorem Shut.issueAll {s : State} (h : Shut s) : issueAll s = s :=
  kept_issueAll (P := fun t => t = s) (fun k ht => by rw [ht]; exact h.issueZone k) rfl

/-- Valves whose target and commanded position stay, or become 0, and entries removed. -/
theorem Shut.of_valves {s t : State} (h : Shut s)
    (hvalves : ∀ i, ((valveOf t i).target = (valveOf s i).target ∧ (valveOf t i).commanded = (valveOf s i).commanded) ∨
      ((valveOf t i).target = 0 ∧ (valveOf t i).commanded = 0))
    (hqueues : ∀ k, (t.motion.queues.get k) ⊆ s.motion.queues.get k) : Shut t := by
  obtain ⟨hv, hq⟩ := h
  refine ⟨fun i => ?_, fun k => List.subset_nil.1 (hq k ▸ hqueues k)⟩
  rcases hvalves i with ⟨htarget, hcommanded⟩ | hzero
  · rw [htarget, hcommanded]; exact hv i
  · exact hzero

theorem Shut.urgentClose {s : State} (h : Shut s) (sel : SlotIdx → Bool) : Shut (urgentClose sel s) := by
  refine h.of_valves (fun i => ?_) fun k => ?_
  · rw [valveOf_urgentClose]; split
    · exact .inr ⟨rfl, rfl⟩
    · exact .inl ⟨rfl, rfl⟩
  · rw [urgentClose_queues_get]; exact List.filter_subset_self _

@[simp] theorem valveOf_setValve (i : SlotIdx) (v : Valve) (s : State) (j : SlotIdx) :
    valveOf (setValve i v s) j = if j = i then v else valveOf s j := by
  simp only [valveOf, setValve_valves, Table.get_set]

@[simp] theorem removeEntries_queues_get (sel : SlotIdx → Bool) (s : State) (k : ZoneIdx) :
    (removeEntries sel s).motion.queues.get k = (s.motion.queues.get k).filter fun e => !sel e.slot :=
  Table.get_map _ _ k

@[simp] theorem valveOf_removeEntries (sel : SlotIdx → Bool) (s : State) (i : SlotIdx) :
    valveOf (removeEntries sel s) i = valveOf s i := rfl

theorem Shut.removeEntries {s : State} (h : Shut s) (sel : SlotIdx → Bool) : Shut (removeEntries sel s) :=
  h.of_valves (fun _ => .inl ⟨rfl, rfl⟩) fun k => by rw [removeEntries_queues_get]; exact List.filter_subset_self _

/-- One valve written again, with its target and commanded position as they were or at 0. -/
theorem Shut.setValve {s : State} (h : Shut s) (i : SlotIdx) {v : Valve} (hv : v.target = 0 ∧ v.commanded = 0) :
    Shut (setValve i v s) := by
  refine h.of_valves (fun j => ?_) fun k => List.Subset.refl _
  rw [valveOf_setValve]; split
  · exact .inr hv
  · exact .inl ⟨rfl, rfl⟩

theorem stickValve_motion_of_unstuck {s : State} {i : SlotIdx} (h : (valveOf s i).isStuck = false) :
    (stickValve i s).motion =
      (removeEntries (fun j => j == i) (setValve i { valveOf s i with state := .stuck } s)).motion := by
  rw [stickValve, h, if_neg Bool.false_ne_true, dropStuck_motion]
  rfl

theorem stickValve_of_stuck {s : State} {i : SlotIdx} (h : (valveOf s i).isStuck = true) : stickValve i s = s := by
  rw [stickValve, h, if_pos rfl]

theorem Shut.stickValve {s : State} (h : Shut s) (i : SlotIdx) : Shut (stickValve i s) := by
  cases hstuck : (valveOf s i).isStuck with
  | true => rw [stickValve_of_stuck hstuck]; exact h
  | false =>
    exact ((h.setValve i (v := { valveOf s i with state := .stuck }) (h.1 i)).removeEntries _).of_motion_eq
      (stickValve_motion_of_unstuck hstuck)

theorem Shut.copyPlan {s : State} (h : Shut s) : Shut (copyPlan s) := by
  refine h.of_valves (fun _ => .inl ⟨rfl, rfl⟩) fun k => ?_
  have hnone : ∀ t : State, t.motion = s.motion → allEntries t = [] := fun t ht => by
    rw [allEntries, ht]
    exact List.flatMap_eq_nil_iff.2 fun j _ => h.2 j
  rw [Machine.copyPlan, migrateQueues_get]
  rw [hnone (raise .planAdopted { s with plan := { s.plan with active := s.plan.pendingPlan, adoption := .editable } }) rfl]
  exact List.nil_subset _

theorem Shut.completeAdoption {s : State} (h : Shut s) : Shut (completeAdoption s) := by
  cases ha : s.plan.adoption with
  | editable => rwa [completeAdoption_of_editable ha]
  | adopting =>
    rw [completeAdoption_of_adopting ha]
    exact kept_foldl_stickValve (P := Shut) (fun i h => h.stickValve i) _ h.copyPlan

theorem shut_closeManifold (s : State) : Shut (closeManifold s) := by
  refine ⟨fun i => ?_, fun k => Table.get_fill _ k⟩
  have hvalve : valveOf (closeManifold s) i = valveOf (Machine.urgentClose (fun _ => true) s) i := rfl
  rw [hvalve, valveOf_urgentClose, if_pos rfl]
  exact ⟨rfl, rfl⟩

theorem ClosedLaw.of_shut {s t : State} (h : ClosedLaw s) (halloc : t.rounds.allocator = s.rounds.allocator)
    (hshut : Shut s → Shut t) : ClosedLaw t := fun hclosed =>
  hshut (h (by rw [manifoldClosed, ← halloc]; exact hclosed))

theorem ClosedLaw.of_motion {s t : State} (h : ClosedLaw s) (hrounds : t.rounds = s.rounds)
    (hmotion : t.motion = s.motion) : ClosedLaw t :=
  h.of_shut (by rw [hrounds]) (·.of_motion_eq hmotion)

theorem closedLaw_of_open {s : State} (h : manifoldClosed s = false) : ClosedLaw s := fun hclosed => by
  rw [h] at hclosed; cases hclosed

theorem manifoldClosed_of_running {s : State} (h : s.rounds.allocator = .running) : manifoldClosed s = false := by
  rw [manifoldClosed, h]; rfl

theorem ClosedLaw.issueZone {s : State} (h : ClosedLaw s) (k : ZoneIdx) : ClosedLaw (issueZone k s) :=
  h.of_shut (by rw [issueZone_rounds]) fun hs => by rw [hs.issueZone]; exact hs

theorem ClosedLaw.issueAll {s : State} (h : ClosedLaw s) : ClosedLaw (issueAll s) :=
  kept_issueAll (fun k h => h.issueZone k) h

theorem ClosedLaw.urgentClose {s : State} (h : ClosedLaw s) (sel : SlotIdx → Bool) : ClosedLaw (urgentClose sel s) :=
  h.of_shut rfl (·.urgentClose sel)

theorem ClosedLaw.removeEntries {s : State} (h : ClosedLaw s) (sel : SlotIdx → Bool) :
    ClosedLaw (removeEntries sel s) :=
  h.of_shut rfl (·.removeEntries sel)

theorem ClosedLaw.closeSlot {s : State} (h : ClosedLaw s) (i : SlotIdx) : ClosedLaw (closeSlot i s) :=
  (h.urgentClose _).issueZone _

theorem ClosedLaw.closeSlots {s : State} (h : ClosedLaw s) (sel : SlotIdx → Bool) : ClosedLaw (closeSlots sel s) :=
  (h.urgentClose _).issueAll

theorem ClosedLaw.setValve {s : State} (h : ClosedLaw s) (i : SlotIdx) {v : Valve}
    (hv : (valveOf s i).target = 0 ∧ (valveOf s i).commanded = 0 → v.target = 0 ∧ v.commanded = 0) :
    ClosedLaw (setValve i v s) :=
  h.of_shut rfl fun hs => hs.setValve i (hv (hs.1 i))

theorem ClosedLaw.stickAndIssue {s : State} (h : ClosedLaw s) (i : SlotIdx) : ClosedLaw (stickAndIssue i s) :=
  kept_stickAndIssue (fun k h => h.issueZone k) i
    (h.of_shut (by rw [stickValve_rounds]) (·.stickValve i)) h

theorem finishIfEmpty_cases (s : State) : finishIfEmpty s = s ∨ finishIfEmpty s = finishProcedure s := by
  rw [finishIfEmpty]; split
  · exact .inr rfl
  · exact .inl rfl

theorem ClosedLaw.settle {s : State} (h : ClosedLaw s) : ClosedLaw (settle s) := by
  refine ClosedLaw.issueAll ?_
  refine ClosedLaw.of_motion ?_ (finishIfEmpty_rounds _) (finishIfEmpty_motion _)
  exact ClosedLaw.urgentClose (s := setProc _ s) h _

theorem closesOnClear_of_closed {s : State} (h : manifoldClosed s = true) (i : SlotIdx) :
    closesOnClear s i = true := by
  rw [manifoldClosed] at h
  simp only [closesOnClear, h, Bool.true_or]

theorem ClosedLaw.decided {l : Link} {s t : State} (h : ClosedLaw s) (hd : Decided l s t) : ClosedLaw t := by
  cases hd
  case lockSlot i => exact ClosedLaw.closeSlot (s := setSlotLock i true s) h i
  case lockZone k =>
    exact (ClosedLaw.urgentClose (s := setZoneLock k true s) h _).issueZone k
  case hold | releaseShutIn => exact closedLaw_of_open rfl
  case shutInAgain hshut =>
    exact fun _ => h (by rw [manifoldClosed, hshut, Bool.or_true])
  case shutIn => exact fun _ => shut_closeManifold _
  case commission i seed _ _ => exact ClosedLaw.setValve (s := setRoster i _ s) h i fun _ => ⟨rfl, rfl⟩
  case retire i _ _ _ => exact ClosedLaw.closeSlot (s := setRoster i _ s) h i
  case reclaim i _ => exact ClosedLaw.setValve (s := setRoster i _ s) h i fun _ => ⟨rfl, rfl⟩
  case faultClosed i _ => exact (h.setValve i (v := { valveOf s i with state := .atRest }) id).closeSlot i
  case faultHeld i _ hopen =>
    refine closedLaw_of_open (Bool.eq_false_iff.2 fun hclosed => ?_)
    rw [closesOnClear_of_closed (s := s) hclosed] at hopen
    cases hopen
  case resume => exact h.settle
  case purge i n _ _ _ =>
    rw [startPurge]
    refine ClosedLaw.issueZone (ClosedLaw.removeEntries ?_ _) _
    exact h.of_motion rfl rfl
  case capacity | lowerCapacity | roundMode => exact h
  case limits => exact h.of_shut (by rw [requestRoundIf]; split <;> rfl) (·.of_motion_eq (requestRoundIf_motion _ _))
  all_goals exact h.of_motion (by simp) (by simp)

theorem alarmTakes_allocator (out : Bool) (s : State) :
    (alarmTakes out s).rounds.allocator = s.rounds.allocator := by
  rw [alarmTakes]
  repeat' split
  all_goals rfl

theorem deliver_allocator (d : Delivery) (s : State) : (deliver d s).rounds.allocator = s.rounds.allocator := by
  rw [← alarmTakes_allocator (readingOut s.gas.limits d) s]
  simp only [deliver, bandTakes, watchTakes]
  repeat' split
  all_goals rfl

theorem rollWindows_allocator (c : Clock) (s : State) : (rollWindows c s).rounds.allocator = s.rounds.allocator := by
  rw [rollWindows, completeRollover, requestRoundIf]
  repeat' split
  all_goals rfl

theorem completeAdoption_allocator (s : State) : (completeAdoption s).rounds.allocator = s.rounds.allocator := by
  rw [completeAdoption_rounds]

theorem ClosedLaw.takePosition {s : State} (h : ClosedLaw s) (i : SlotIdx) (p : Nat) :
    ClosedLaw (takePosition i p s) := by
  have hset : ClosedLaw (Machine.setValve i ((valveOf s i).report p) s) := h.setValve i id
  simp only [Machine.takePosition]; split
  · exact hset.issueZone _
  · exact hset

theorem ClosedLaw.retireDone {s : State} (h : ClosedLaw s) (i : SlotIdx) : ClosedLaw (retireDone i s) :=
  (h.setValve i (v := restedValve) fun _ => ⟨rfl, rfl⟩).of_motion rfl rfl

theorem ClosedLaw.replyRecorded {s : State} (h : ClosedLaw s) (i : SlotIdx) (r : HeadReply) :
    ClosedLaw (replyRecorded i r s) := h.of_motion rfl rfl

theorem ClosedLaw.keyRelease {s : State} (h : ClosedLaw s) : ClosedLaw (keyRelease s) := by
  rw [Machine.keyRelease]
  refine ClosedLaw.closeSlots ?_ _
  exact h.of_motion rfl rfl

theorem ClosedLaw.latchLine {s : State} (h : ClosedLaw s) (j : LineIdx) : ClosedLaw (latchLine j s) := by
  rw [Machine.latchLine]
  refine ClosedLaw.of_motion (ClosedLaw.closeSlots ?_ _) (raise_rounds _ _) (raise_motion _ _)
  exact h.of_motion rfl rfl

theorem ClosedLaw.computeRound {s : State} (hrun : s.rounds.allocator = .running) : ClosedLaw (computeRound s) :=
  closedLaw_of_open (manifoldClosed_of_running (by rw [← hrun]; simp [Machine.computeRound]))

theorem kept_closedLaw : Kept ClosedLaw where
  queue _ h := h
  traffic _ _ _ _ h := h
  owner := kept_owner ClosedLaw.decided
  reset _ := fun _ => shut_closeManifold _
  clearPoll h := h
  sendNext {s} h := h.of_motion (sendNext_rounds s) (sendNext_motion s)
  manifoldReply {s} r h := h.of_shut (deliver_allocator _ _) (·.of_motion_eq (takeManifoldReply_motion s r))
  slotReply :=
    kept_slotReply (fun i r _ h => h.replyRecorded i r) (fun i p h => h.takePosition i p)
      (fun i h => h.of_motion (sealSlot_rounds _ i) (sealSlot_motion _ i)) (fun i _ h => h.stickAndIssue i)
      fun i _ h => h.retireDone i
  missReply {s} a h := h.of_motion (missReply_rounds s a) (missReply_motion s a)
  roundEvent :=
    kept_roundEvent (fun k h => h.issueZone k)
      (fun _ h => h.of_shut (completeAdoption_allocator _) Shut.completeAdoption)
      (fun hrun _ => ClosedLaw.computeRound hrun)
      fun h => h
  takeOff _ _ h := h
  nextExpiry _ _ h := h
  restartTimer h := h
  release _ := closedLaw_of_open rfl
  clearMissed h := h
  issueAll h := h.issueAll
  takeGasBand _ h := h
  enterShutIn _ _ := fun _ => shut_closeManifold _
  travelTimeout i _ h := h.stickAndIssue i
  spendWatch h := h
  raiseAlarm _ h := h
  keySwitch _ h := h
  followKey h := h
  keyRelease h := h.keyRelease
  setContact _ _ h := h
  followContact _ _ h := h
  latch {s} j h := ClosedLaw.latchLine (s := followContact j s) (h.of_motion rfl rfl) j
  tick h := h
  takeRollover c _ h := ClosedLaw.of_shut h (rollWindows_allocator c _) (·.of_motion_eq (rollWindows_motion _ c))
  settle _ h := h.settle
  completeTest {s} _ h := h.of_motion (completeTest_rounds s) (completeTest_motion s)
  endPurge {s} _ h := h.of_motion (endPurge_rounds s) (endPurge_motion s)
  endWrite {s} crc bytes h := h.of_motion (endWrite_rounds s crc bytes) (endWrite_motion s crc bytes)

/-- Settles O58: the closed manifold is kept by the traffic, the owners and the events. -/
theorem stepKeepsManifoldClosed : Obligations.StepKeepsManifoldClosed := fun _ _ h ht => kept_closedLaw.step h ht

end Sys2Proof.Machine
end

section
/-! PROOFS. The times that the part keeps: none lies after its elapsed-seconds count. -/

namespace Sys2Proof.Machine

/-! ## The start of a measurement -/

/-- The start of a measurement, if there is one, has come. -/
def MeasurePast (s : State) : Prop := ∀ start, s.proc.measureStart = some start → start ≤ s.elapsed

theorem MeasurePast.of_eq {s t : State} (h : MeasurePast s) (helapsed : t.elapsed = s.elapsed)
    (hstart : t.proc.measureStart = s.proc.measureStart) : MeasurePast t := by
  intro start hs
  rw [helapsed]
  exact h start (hstart ▸ hs)

theorem MeasurePast.of_proc {s t : State} (h : MeasurePast s) (helapsed : t.elapsed = s.elapsed)
    (hproc : t.proc = s.proc) : MeasurePast t :=
  h.of_eq helapsed (by rw [hproc])

theorem measurePast_of_none {s : State} (h : s.proc.measureStart = none) : MeasurePast s := fun start hs => by
  rw [h] at hs; cases hs

theorem measurePast_finishProcedure (s : State) : MeasurePast (finishProcedure s) := measurePast_of_none rfl

theorem MeasurePast.enterMeasuring {s : State} : MeasurePast (enterMeasuring s) := by
  rw [Machine.enterMeasuring]; split
  · exact measurePast_finishProcedure _
  · intro start hs
    cases hs
    exact Nat.le_refl _

theorem MeasurePast.examineSettling {s : State} (h : MeasurePast s) : MeasurePast (examineSettling s) := by
  rw [Machine.examineSettling]; split
  · exact measurePast_finishProcedure _
  · split
    · exact MeasurePast.enterMeasuring
    · exact h

theorem MeasurePast.sealSlot {s : State} (h : MeasurePast s) (i : SlotIdx) : MeasurePast (sealSlot i s) := by
  rw [Machine.sealSlot]; split
  · exact MeasurePast.examineSettling (h.of_eq rfl rfl)
  · exact h

theorem MeasurePast.dropStuck {s : State} (h : MeasurePast s) (i : SlotIdx) : MeasurePast (dropStuck i s) := by
  rw [Machine.dropStuck]; split
  · exact MeasurePast.examineSettling (h.of_eq rfl rfl)
  · exact h

theorem MeasurePast.finishIfEmpty {s : State} (h : MeasurePast s) : MeasurePast (finishIfEmpty s) := by
  rcases finishIfEmpty_cases s with hs | hs <;> rw [hs]
  exacts [h, measurePast_finishProcedure s]

theorem MeasurePast.dropSilent {s : State} (h : MeasurePast s) (i : SlotIdx) : MeasurePast (dropSilent i s) := by
  rw [Machine.dropSilent]; split
  · refine MeasurePast.finishIfEmpty ?_
    exact h.of_eq rfl rfl
  · exact h

theorem MeasurePast.stickValve {s : State} (h : MeasurePast s) (i : SlotIdx) : MeasurePast (stickValve i s) := by
  rw [Machine.stickValve]; split
  · exact h
  · refine MeasurePast.dropStuck ?_ i
    exact h.of_eq rfl rfl

theorem MeasurePast.issueZone {s : State} (h : MeasurePast s) (k : ZoneIdx) : MeasurePast (issueZone k s) :=
  h.of_proc (issueZone_elapsed s k) (issueZone_proc s k)

theorem MeasurePast.stickAndIssue {s : State} (h : MeasurePast s) (i : SlotIdx) : MeasurePast (stickAndIssue i s) :=
  kept_stickAndIssue (fun k h => h.issueZone k) i (h.stickValve i) h

theorem MeasurePast.settle {s : State} (h : MeasurePast s) : MeasurePast (settle s) := by
  refine MeasurePast.of_proc (MeasurePast.finishIfEmpty ?_) (issueAll_elapsed _) (issueAll_proc _)
  exact h.of_eq rfl rfl

theorem MeasurePast.completeAdoption {s : State} (hadopt : s.plan.adoption = .adopting) (h : MeasurePast s) :
    MeasurePast (completeAdoption s) := by
  rw [completeAdoption_of_adopting hadopt]
  exact kept_foldl_stickValve (P := MeasurePast) (fun i h => h.stickValve i) _ (h.of_eq rfl rfl)

theorem MeasurePast.missReply {s : State} (h : MeasurePast s) (a : HeadAddr) : MeasurePast (missReply a s) := by
  simp only [Machine.missReply]; split
  · exact h.of_proc (raiseIf_elapsed _ _ _) (raiseIf_proc _ _ _)
  · split
    · exact h
    · split
      · refine MeasurePast.dropSilent ?_ _
        exact h.of_eq rfl rfl
      · exact h

theorem MeasurePast.decided {l : Link} {s t : State} (h : MeasurePast s) (hd : Decided l s t) : MeasurePast t := by
  cases hd
  case abort => exact measurePast_finishProcedure _
  case suspend => exact measurePast_of_none rfl
  case resume => exact h.settle
  case purge i n _ _ _ =>
    rw [startPurge]
    refine MeasurePast.issueZone ?_ _
    exact h.of_eq rfl rfl
  case beginTest | restartTest | joinTest => exact h
  all_goals exact h.of_proc (by simp [commissioned]) (by simp [commissioned])

theorem kept_measurePast : Kept MeasurePast where
  queue _ h := h
  traffic _ _ _ _ h := h
  owner := kept_owner MeasurePast.decided
  reset _ := measurePast_of_none rfl
  clearPoll h := h
  sendNext {s} h := h.of_proc (sendNext_elapsed s) (sendNext_proc s)
  manifoldReply {s} r h := h.of_proc (takeManifoldReply_elapsed s r) (takeManifoldReply_proc s r)
  slotReply :=
    kept_slotReply (fun _ _ _ h => h.of_eq rfl rfl)
      (fun i p h => h.of_proc (takePosition_elapsed _ i p) (takePosition_proc _ i p)) (fun i h => h.sealSlot i)
      (fun i _ h => h.stickAndIssue i) fun _ _ h => h.of_eq rfl rfl
  missReply a h := h.missReply a
  roundEvent :=
    kept_roundEvent (fun k h => h.issueZone k) (fun hadopt h => h.completeAdoption hadopt)
      (fun _ h => h.of_proc (computeRound_elapsed _) (computeRound_proc _)) fun h => h
  takeOff _ _ h := h
  nextExpiry _ _ h := h
  restartTimer h := h
  release h := h
  clearMissed h := h
  issueAll {s} h := h.of_proc (issueAll_elapsed s) (issueAll_proc s)
  takeGasBand _ h := h
  enterShutIn _ h := h
  travelTimeout i _ h := h.stickAndIssue i
  spendWatch h := h
  raiseAlarm _ h := h
  keySwitch _ h := h
  followKey h := h
  keyRelease {s} h := h.of_proc (keyRelease_elapsed s) (keyRelease_proc s)
  setContact _ _ h := h
  followContact _ _ h := h
  latch {s} j h :=
    MeasurePast.of_proc (s := followContact j s) h (latchLine_elapsed _ j) (latchLine_proc _ j)
  tick h := fun start hs => (h start hs).trans (Nat.le_succ _)
  takeRollover c _ h := MeasurePast.of_proc h (rollWindows_elapsed _ c) (rollWindows_proc _ c)
  settle _ h := h.settle
  completeTest _ _ := measurePast_finishProcedure _
  endPurge _ h := h.of_eq rfl rfl
  endWrite {s} crc bytes h := h.of_proc (endWrite_elapsed s crc bytes) (endWrite_proc s crc bytes)

/-! ## The starts of the moves -/

/-- The start of a valve's move, if it is MOVING, has come. -/
def Valve.Timely (now : Nat) (v : Valve) : Prop := ∀ start, v.state = .moving start → start ≤ now

/-- The start of every move has come. -/
def MovesPast (s : State) : Prop := ∀ i, (valveOf s i).Timely s.elapsed

theorem moveTimeOk_iff (s : State) (v : Valve) : moveTimeOk s v = true ↔ v.Timely s.elapsed := by
  obtain ⟨target, commanded, reported, state⟩ := v
  cases state <;> simp [moveTimeOk, Valve.Timely]

theorem Valve.Timely.of_state {now : Nat} {v w : Valve} (h : v.Timely now) (hw : w.state = v.state) :
    w.Timely now := fun start hs => h start (hw ▸ hs)

theorem Valve.timely_of_atRest {now : Nat} {v : Valve} (h : v.state = .atRest) : v.Timely now := fun start hs => by
  rw [h] at hs; cases hs

theorem Valve.timely_of_stuck {now : Nat} {v : Valve} (h : v.state = .stuck) : v.Timely now := fun start hs => by
  rw [h] at hs; cases hs

theorem Valve.timely_of_now {now : Nat} {v : Valve} (h : v.state = .moving now) : v.Timely now := fun start hs => by
  rw [h] at hs; cases hs; exact Nat.le_refl _

theorem Valve.timely_urgentClose (life : Lifecycle) (now : Nat) (v : Valve) : (v.urgentClose life now).Timely now := by
  cases hlife : life.inService with
  | false => exact Valve.timely_of_atRest (Valve.urgentClose_state_of_outOfService now hlife)
  | true =>
    cases hstuck : v.isStuck with
    | false => exact Valve.timely_of_now (Valve.urgentClose_state_of_free now hlife hstuck)
    | true => exact Valve.timely_of_stuck (Valve.urgentClose_state_of_stuck now hlife hstuck)

theorem Valve.Timely.report {now : Nat} {v : Valve} (h : v.Timely now) (p : Nat) : (v.report p).Timely now := by
  intro start hs
  rw [Valve.report] at hs
  dsimp only at hs
  split at hs
  · cases hs
  · exact h start hs

theorem MovesPast.of_motion {s t : State} (h : MovesPast s) (helapsed : t.elapsed = s.elapsed)
    (hmotion : t.motion = s.motion) : MovesPast t := fun i => by
  rw [helapsed, valveOf, hmotion]
  exact h i

theorem MovesPast.setValve {s : State} (h : MovesPast s) (i : SlotIdx) {v : Valve} (hv : v.Timely s.elapsed) :
    MovesPast (setValve i v s) := fun j => by
  rw [valveOf_setValve]; split
  · exact hv
  · exact h j

theorem MovesPast.urgentClose {s : State} (h : MovesPast s) (sel : SlotIdx → Bool) : MovesPast (urgentClose sel s) :=
  fun i => by
    rw [valveOf_urgentClose]; split
    · exact Valve.timely_urgentClose _ _ _
    · exact h i

theorem MovesPast.issueZone {s : State} (h : MovesPast s) (k : ZoneIdx) : MovesPast (issueZone k s) := by
  refine issueLoop_induction (k := k) (R := fun s t => MovesPast s → MovesPast t) (fun _ => id) ?_ _ s h
  intro s t e _ hrest h
  refine hrest fun i => ?_
  rw [valveOf_issueEntry]; split
  · exact Valve.timely_of_now rfl
  · exact h i

theorem MovesPast.issueAll {s : State} (h : MovesPast s) : MovesPast (issueAll s) :=
  kept_issueAll (fun k h => h.issueZone k) h

theorem MovesPast.closeSlot {s : State} (h : MovesPast s) (i : SlotIdx) : MovesPast (closeSlot i s) :=
  (h.urgentClose _).issueZone _

theorem MovesPast.closeSlots {s : State} (h : MovesPast s) (sel : SlotIdx → Bool) : MovesPast (closeSlots sel s) :=
  (h.urgentClose _).issueAll

theorem MovesPast.stickValve {s : State} (h : MovesPast s) (i : SlotIdx) : MovesPast (stickValve i s) := by
  cases hstuck : (valveOf s i).isStuck with
  | true => rw [stickValve_of_stuck hstuck]; exact h
  | false =>
    have hset := h.setValve i (v := { valveOf s i with state := .stuck }) (Valve.timely_of_stuck rfl)
    have hremoved : MovesPast (removeEntries (· == i) (Machine.setValve i { valveOf s i with state := .stuck } s)) :=
      fun j => hset j
    exact hremoved.of_motion (stickValve_elapsed s i) (stickValve_motion_of_unstuck hstuck)

theorem MovesPast.stickAndIssue {s : State} (h : MovesPast s) (i : SlotIdx) : MovesPast (stickAndIssue i s) :=
  kept_stickAndIssue (fun k h => h.issueZone k) i (h.stickValve i) h

theorem MovesPast.completeAdoption {s : State} (hadopt : s.plan.adoption = .adopting) (h : MovesPast s) :
    MovesPast (completeAdoption s) := by
  rw [completeAdoption_of_adopting hadopt]
  refine kept_foldl_stickValve (P := MovesPast) (fun i h => h.stickValve i) _ ?_
  exact fun i => h i

theorem valveOf_handTargets (round : Nat) (hands : SlotIdx → Option Nat) (place : SlotIdx → Nat) (s : State)
    (i : SlotIdx) :
    valveOf (handTargets round hands place s) i =
      { valveOf s i with target := (hands i).getD (valveOf s i).target } := Table.get_tabulate _ i

/-- Computing a round leaves every valve as it was but for its target. -/
theorem valveOf_computeRound (s : State) (i : SlotIdx) :
    valveOf (computeRound s) i =
      { valveOf s i with target := ((allocate s).handed i).getD (valveOf s i).target } := by
  rw [valveOf, computeRound, raiseIf_motion]
  exact valveOf_handTargets _ _ _ _ i

theorem MovesPast.computeRound {s : State} (h : MovesPast s) : MovesPast (computeRound s) := fun i => by
  rw [computeRound_elapsed, valveOf_computeRound]
  exact (h i).of_state rfl

theorem MovesPast.settle {s : State} (h : MovesPast s) : MovesPast (settle s) := by
  refine MovesPast.issueAll (MovesPast.of_motion ?_ (finishIfEmpty_elapsed _) (finishIfEmpty_motion _))
  exact MovesPast.urgentClose (s := setProc _ s) (h.of_motion rfl rfl) _

theorem MovesPast.takePosition {s : State} (h : MovesPast s) (i : SlotIdx) (p : Nat) :
    MovesPast (takePosition i p s) := by
  have hset : MovesPast (Machine.setValve i ((valveOf s i).report p) s) := h.setValve i ((h i).report p)
  simp only [Machine.takePosition]; split
  · exact hset.issueZone _
  · exact hset

theorem Valve.timely_heldAtRest (now : Nat) (v : Valve) : v.heldAtRest.Timely now := by
  rw [Valve.heldAtRest]; split <;> exact Valve.timely_of_atRest rfl

theorem MovesPast.closeManifold {s : State} (h : MovesPast s) : MovesPast (closeManifold s) := fun i =>
  h.urgentClose (fun _ => true) i

theorem MovesPast.retireDone {s : State} (h : MovesPast s) (i : SlotIdx) : MovesPast (retireDone i s) :=
  (h.setValve i (v := restedValve) (Valve.timely_of_atRest rfl)).of_motion rfl rfl

theorem MovesPast.decided {l : Link} {s t : State} (h : MovesPast s) (hd : Decided l s t) : MovesPast t := by
  cases hd
  case lockSlot i => exact MovesPast.closeSlot (s := setSlotLock i true s) (h.of_motion rfl rfl) i
  case lockZone k =>
    exact (MovesPast.urgentClose (s := setZoneLock k true s) (h.of_motion rfl rfl) _).issueZone k
  case shutIn => exact h.closeManifold.of_motion rfl rfl
  case commission i seed _ _ =>
    exact (h.setValve i (v := restedValve) (Valve.timely_of_atRest rfl)).of_motion rfl rfl
  case retire i _ _ _ => exact MovesPast.closeSlot (s := setRoster i _ s) (h.of_motion rfl rfl) i
  case reclaim i _ =>
    exact (h.setValve i (v := restedValve) (Valve.timely_of_atRest rfl)).of_motion rfl rfl
  case faultClosed i _ =>
    exact (h.setValve i (v := { valveOf s i with state := .atRest }) (Valve.timely_of_atRest rfl)).closeSlot i
  case faultHeld i _ _ => exact h.setValve i (Valve.timely_heldAtRest _ _)
  case resume => exact h.settle
  case purge i n _ _ _ =>
    rw [startPurge]
    refine MovesPast.issueZone ?_ _
    exact fun j => h j
  all_goals exact h.of_motion (by simp) (by simp)

theorem movesPast_resetPart (s : State) : MovesPast (resetPart s) := by
  have hloaded : MovesPast (loadedPart (loadImage s.store.stored) s) := fun i => by
    have hvalve : valveOf (loadedPart (loadImage s.store.stored) s) i = restedValve := Table.get_fill _ i
    rw [hvalve]
    exact Valve.timely_of_atRest rfl
  exact hloaded.closeManifold.of_motion rfl rfl

theorem kept_movesPast : Kept MovesPast where
  queue _ h := h
  traffic _ _ _ _ h := h
  owner := kept_owner MovesPast.decided
  reset _ := movesPast_resetPart _
  clearPoll h := h
  sendNext {s} h := h.of_motion (sendNext_elapsed s) (sendNext_motion s)
  manifoldReply {s} r h := h.of_motion (takeManifoldReply_elapsed s r) (takeManifoldReply_motion s r)
  slotReply :=
    kept_slotReply (fun _ _ _ h => h.of_motion rfl rfl) (fun i p h => h.takePosition i p)
      (fun i h => h.of_motion (sealSlot_elapsed _ i) (sealSlot_motion _ i)) (fun i _ h => h.stickAndIssue i)
      fun i _ h => h.retireDone i
  missReply {s} a h := h.of_motion (missReply_elapsed s a) (missReply_motion s a)
  roundEvent :=
    kept_roundEvent (fun k h => h.issueZone k) (fun hadopt h => h.completeAdoption hadopt)
      (fun _ h => h.computeRound) fun h => h
  takeOff _ _ h := h
  nextExpiry _ _ h := h
  restartTimer h := h
  release h := h
  clearMissed h := h
  issueAll h := h.issueAll
  takeGasBand _ h := h
  enterShutIn _ h := h.closeManifold.of_motion rfl rfl
  travelTimeout i _ h := h.stickAndIssue i
  spendWatch h := h
  raiseAlarm _ h := h
  keySwitch _ h := h
  followKey h := h
  keyRelease h := by
    rw [Machine.keyRelease]
    refine MovesPast.closeSlots ?_ _
    exact h.of_motion rfl rfl
  setContact _ _ h := h
  followContact _ _ h := h
  latch j h := by
    rw [Machine.latchLine]
    refine MovesPast.of_motion (MovesPast.closeSlots ?_ _) (raise_elapsed _ _) (raise_motion _ _)
    exact h.of_motion rfl rfl
  tick h := fun i start hs => (h i start hs).trans (Nat.le_succ _)
  takeRollover c _ h := MovesPast.of_motion h (rollWindows_elapsed _ c) (rollWindows_motion _ c)
  settle _ h := h.settle
  completeTest {s} _ h := h.of_motion (completeTest_elapsed s) (completeTest_motion s)
  endPurge {s} _ h := h.of_motion (endPurge_elapsed s) (endPurge_motion s)
  endWrite {s} crc bytes h := h.of_motion (endWrite_elapsed s crc bytes) (endWrite_motion s crc bytes)

/-! ## The stamps of readings, of commissioning and of the watch -/

/-- Whether an optional value's time has come at a count. -/
def Stamped.Past (now : Nat) (v : Option Stamped) : Prop := ∀ x, v = some x → x.time ≤ now

theorem timeOk_iff (s : State) (v : Option Stamped) : timeOk s v = true ↔ Stamped.Past s.elapsed v := by
  cases v <;> simp [timeOk, Stamped.Past]

/-- The times of a reading record have come. -/
structure ReadingRecord.Past (now : Nat) (r : ReadingRecord) : Prop where
  methane : Stamped.Past now r.methane
  oxygen : Stamped.Past now r.oxygen
  flow : Stamped.Past now r.flow
  pressure : Stamped.Past now r.pressure
  position : Stamped.Past now r.position

/-- The times of the manifold's record have come. -/
structure ManifoldRecord.Past (now : Nat) (m : ManifoldRecord) : Prop where
  methane : Stamped.Past now m.methane
  oxygen : Stamped.Past now m.oxygen
  flow : Stamped.Past now m.flow
  pressure : Stamped.Past now m.pressure

theorem recordTimesOk_iff (s : State) (r : ReadingRecord) : recordTimesOk s r = true ↔ r.Past s.elapsed := by
  simp only [recordTimesOk, Bool.and_eq_true, timeOk_iff]
  exact ⟨fun ⟨⟨⟨⟨h1, h2⟩, h3⟩, h4⟩, h5⟩ => ⟨h1, h2, h3, h4, h5⟩, fun ⟨h1, h2, h3, h4, h5⟩ => ⟨⟨⟨⟨h1, h2⟩, h3⟩, h4⟩, h5⟩⟩

theorem manifoldTimesOk_iff (s : State) (m : ManifoldRecord) : manifoldTimesOk s m = true ↔ m.Past s.elapsed := by
  simp only [manifoldTimesOk, Bool.and_eq_true, timeOk_iff]
  exact ⟨fun ⟨⟨⟨h1, h2⟩, h3⟩, h4⟩ => ⟨h1, h2, h3, h4⟩, fun ⟨h1, h2, h3, h4⟩ => ⟨⟨⟨h1, h2⟩, h3⟩, h4⟩⟩

theorem Stamped.past_none (now : Nat) : Stamped.Past now none := fun _ h => by cases h

theorem Stamped.past_now (value now : Nat) : Stamped.Past now (some { value := value, time := now }) := fun x h => by
  cases h; exact Nat.le_refl _

theorem Stamped.Past.renew {now : Nat} {old : Option Stamped} (h : Stamped.Past now old) (good : Bool) (value : Nat) :
    Stamped.Past now (renew good value now old) := by
  rw [Machine.renew]; split
  · exact Stamped.past_now value now
  · exact h

theorem Stamped.Past.mono {now later : Nat} {v : Option Stamped} (h : Stamped.Past now v) (hle : now ≤ later) :
    Stamped.Past later v := fun x hx => (h x hx).trans hle

theorem ReadingRecord.Past.take {now : Nat} {rec : ReadingRecord} (h : rec.Past now) (r : HeadReply) :
    (rec.take now r).Past now :=
  ⟨h.methane.renew _ _, h.oxygen.renew _ _, h.flow.renew _ _, Stamped.past_now _ _, Stamped.past_now _ _⟩

theorem ManifoldRecord.Past.take {now : Nat} {m : ManifoldRecord} (h : m.Past now) (r : HeadReply) :
    (m.take now r).Past now :=
  ⟨h.methane.renew _ _, h.oxygen.renew _ _, h.flow.renew _ _, Stamped.past_now _ _⟩

theorem emptyRecord_past (now : Nat) : emptyRecord.Past now := by
  constructor <;> exact Stamped.past_none now

/-- The times of one slot, of its reading record and of its commissioning, have come. -/
structure SlotPast (s : State) (i : SlotIdx) : Prop where
  record : ∀ r, s.scanner.records.get i = some r → r.Past s.elapsed
  commissioned : ∀ c, (s.plan.roster.get i).commissioned = some c → c ≤ s.elapsed

/-- The watch reference and the times of the manifold's record and of every slot have come. -/
structure StampsPast (s : State) : Prop where
  watch : s.gas.watchRef ≤ s.elapsed
  manifold : s.scanner.manifold.Past s.elapsed
  slots : ∀ i, SlotPast s i

theorem SlotPast.of_eq {s t : State} {i : SlotIdx} (h : SlotPast s i) (helapsed : t.elapsed = s.elapsed)
    (hrecord : t.scanner.records.get i = s.scanner.records.get i)
    (hcomm : (t.plan.roster.get i).commissioned = (s.plan.roster.get i).commissioned) : SlotPast t i := by
  constructor
  · rw [hrecord, helapsed]; exact h.record
  · rw [hcomm, helapsed]; exact h.commissioned

theorem StampsPast.of_slots {s t : State} (h : StampsPast s) (helapsed : t.elapsed = s.elapsed)
    (hwatch : t.gas.watchRef = s.gas.watchRef) (hmanifold : t.scanner.manifold = s.scanner.manifold)
    (hslots : ∀ i, SlotPast t i) : StampsPast t :=
  ⟨by rw [hwatch, helapsed]; exact h.watch, by rw [hmanifold, helapsed]; exact h.manifold, hslots⟩

theorem StampsPast.of_eq {s t : State} (h : StampsPast s) (helapsed : t.elapsed = s.elapsed)
    (hwatch : t.gas.watchRef = s.gas.watchRef) (hscanner : t.scanner = s.scanner)
    (hroster : t.plan.roster = s.plan.roster) : StampsPast t :=
  h.of_slots helapsed hwatch (by rw [hscanner]) fun i =>
    (h.slots i).of_eq helapsed (by rw [hscanner]) (by rw [hroster])

/-- Only one slot's times changed. -/
theorem StampsPast.of_one {s t : State} (h : StampsPast s) (i : SlotIdx) (helapsed : t.elapsed = s.elapsed)
    (hwatch : t.gas.watchRef = s.gas.watchRef) (hmanifold : t.scanner.manifold = s.scanner.manifold)
    (hi : SlotPast t i)
    (hothers : ∀ j, j ≠ i → t.scanner.records.get j = s.scanner.records.get j ∧
      t.plan.roster.get j = s.plan.roster.get j) : StampsPast t :=
  h.of_slots helapsed hwatch hmanifold fun j => by
    by_cases hj : j = i
    · rw [hj]; exact hi
    · obtain ⟨hrecord, hroster⟩ := hothers j hj
      exact (h.slots j).of_eq helapsed hrecord (by rw [hroster])

@[simp] theorem setMode_roster (i : SlotIdx) (m : Mode) (s : State) :
    (setMode i m s).plan.roster = s.plan.roster.set i { s.plan.roster.get i with mode := m } := rfl

/-- A roster record written again with the commission time it had. -/
theorem StampsPast.setRoster {s t : State} (h : StampsPast s) (i : SlotIdx) {r : Roster}
    (helapsed : t.elapsed = s.elapsed) (hwatch : t.gas.watchRef = s.gas.watchRef)
    (hscanner : t.scanner = s.scanner) (hroster : t.plan.roster = s.plan.roster.set i r)
    (hr : r.commissioned = (s.plan.roster.get i).commissioned) : StampsPast t :=
  h.of_slots helapsed hwatch (by rw [hscanner]) fun j => by
    refine (h.slots j).of_eq helapsed (by rw [hscanner]) ?_
    rw [hroster, Table.get_set]
    split
    next hj => rw [hj]; exact hr
    · rfl

theorem Roster.updateYield_commissioned (r : HeadReply) (x : Roster) :
    (x.updateYield r).commissioned = x.commissioned := by
  rw [Roster.updateYield]; split <;> rfl

theorem StampsPast.replyRecorded {s : State} (h : StampsPast s) (i : SlotIdx) (r : HeadReply) :
    StampsPast (replyRecorded i r s) := by
  refine h.of_one i rfl rfl rfl ⟨?_, ?_⟩ fun j hj => ⟨Table.get_set_ne _ _ hj, Table.get_set_ne _ _ hj⟩
  · intro rec hrec
    have hset : some (((s.scanner.records.get i).getD emptyRecord).take s.elapsed r) = some rec :=
      (Table.get_set_self _ i _).symm.trans hrec
    cases hset
    refine ReadingRecord.Past.take ?_ r
    cases hold : s.scanner.records.get i with
    | none => exact emptyRecord_past _
    | some old => exact (h.slots i).record old hold
  · intro c hc
    have hset : ((s.plan.roster.get i).updateYield r).commissioned = some c :=
      (congrArg Roster.commissioned (Table.get_set_self _ i _)).symm.trans hc
    rw [Roster.updateYield_commissioned] at hset
    exact (h.slots i).commissioned c hset

theorem StampsPast.retireDone {s : State} (h : StampsPast s) (i : SlotIdx) : StampsPast (retireDone i s) := by
  refine h.of_one i rfl rfl rfl ⟨?_, ?_⟩ fun j hj => ⟨Table.get_set_ne _ _ hj, Table.get_set_ne _ _ hj⟩
  · intro rec hrec
    cases (Table.get_set_self _ i _).symm.trans hrec
  · intro c hc
    cases (congrArg Roster.commissioned (Table.get_set_self _ i _)).symm.trans hc

theorem StampsPast.commissioned {s : State} (h : StampsPast s) (i : SlotIdx) (seed : Nat) :
    StampsPast (commissioned i seed s) := by
  refine h.of_one i rfl rfl rfl ⟨?_, ?_⟩ fun j hj => ⟨Table.get_set_ne _ _ hj, Table.get_set_ne _ _ hj⟩
  · intro rec hrec
    cases (Table.get_set_self _ i _).symm.trans hrec
    exact emptyRecord_past _
  · intro c hc
    cases (congrArg Roster.commissioned (Table.get_set_self _ i _)).symm.trans hc
    exact Nat.le_refl _

theorem StampsPast.decided {l : Link} {s t : State} (h : StampsPast s) (hd : Decided l s t) : StampsPast t := by
  cases hd
  case commission i seed _ _ => exact h.commissioned i seed
  case retire i _ _ _ =>
    exact h.setRoster i (closeSlot_elapsed _ _) (by rw [closeSlot_gas]; rfl) (closeSlot_scanner _ _)
      (congrArg PlanTable.roster (closeSlot_plan _ _)) rfl
  case reclaim i _ => exact h.setRoster i rfl rfl rfl rfl rfl
  case manual i m _ _ => exact h.setRoster i rfl rfl rfl rfl rfl
  case pendingPlan | adopting => exact h.of_eq rfl rfl rfl rfl
  case unlockSlot | unlockZone => exact h.of_eq rfl rfl rfl rfl
  case lockSlot | lockZone | limits => exact h.of_eq (by simp) (by simp [setSlotLock, setZoneLock]) (by simp) (by simp)
  all_goals exact h.of_eq (by simp) (by simp) (by simp) (by simp)

theorem alarmTakes_watchRef (out : Bool) (s : State) : (alarmTakes out s).gas.watchRef = s.gas.watchRef := by
  rw [alarmTakes]
  repeat' split
  all_goals rfl

theorem bandTakes_watchRef (d : Delivery) (s : State) : (bandTakes d s).gas.watchRef = s.gas.watchRef := by
  rw [bandTakes]
  repeat' split
  all_goals rfl

theorem StampsPast.watchTakes {s : State} (h : StampsPast s) {d : Delivery} (hd : d.time = s.elapsed) :
    StampsPast (watchTakes d s) := by
  rw [Machine.watchTakes]; split
  · exact h
  · exact ⟨hd.le, h.manifold, fun i => (h.slots i).of_eq rfl rfl rfl⟩

theorem StampsPast.deliver {s : State} (h : StampsPast s) {d : Delivery} (hd : d.time = s.elapsed) :
    StampsPast (deliver d s) := by
  have halarm : StampsPast (alarmTakes (readingOut s.gas.limits d) s) :=
    h.of_eq (alarmTakes_elapsed _ _) (alarmTakes_watchRef _ _) (alarmTakes_scanner _ _) (by rw [alarmTakes_plan])
  exact (halarm.watchTakes (by rw [hd, alarmTakes_elapsed])).of_eq (bandTakes_elapsed _ _) (bandTakes_watchRef _ _)
    (bandTakes_scanner _ _) (congrArg PlanTable.roster (bandTakes_plan _ _))

theorem StampsPast.takeManifoldReply {s : State} (h : StampsPast s) (r : HeadReply) :
    StampsPast (takeManifoldReply r s) := by
  rw [Machine.takeManifoldReply]
  refine StampsPast.deliver ?_ rfl
  exact ⟨h.watch, h.manifold.take r, fun i => (h.slots i).of_eq rfl rfl rfl⟩

theorem StampsPast.sendNext {s : State} (h : StampsPast s) : StampsPast (sendNext s) := by
  obtain ⟨-, hrecords, -, hmanifold⟩ := nextPoll_scanner s.scanner.remaining s
  exact h.of_slots (sendNext_elapsed s) (by rw [sendNext_gas]) hmanifold fun i =>
    (h.slots i).of_eq (sendNext_elapsed s) (congrArg (·.get i) hrecords) (by rw [sendNext_plan])

theorem StampsPast.missReply {s : State} (h : StampsPast s) (a : HeadAddr) : StampsPast (missReply a s) := by
  have hheads : ∀ i hd, StampsPast (setHead i hd s) := fun i hd =>
    ⟨h.watch, h.manifold, fun j => (h.slots j).of_eq rfl rfl rfl⟩
  simp only [Machine.missReply]; split
  · refine StampsPast.of_eq (s := { s with scanner := { s.scanner with manifoldHead := _ } }) ?_
      (raiseIf_elapsed _ _ _) (by rw [raiseIf_gas]) (raiseIf_scanner _ _ _) (by rw [raiseIf_plan])
    exact ⟨h.watch, h.manifold, fun j => (h.slots j).of_eq rfl rfl rfl⟩
  next i =>
    split
    · exact h
    next hd _ =>
      split
      · exact StampsPast.of_eq (hheads i (some hd.miss)) (dropSilent_elapsed _ _) (by rw [dropSilent_gas]; rfl)
          (dropSilent_scanner _ _) (by rw [dropSilent_plan]; rfl)
      · exact hheads i _

theorem stampsPast_resetPart (s : State) : StampsPast (resetPart s) := by
  refine ⟨Nat.le_refl _, by constructor <;> exact Stamped.past_none _, fun i => ⟨fun rec hrec => ?_, fun c hc => ?_⟩⟩
  · simp only [resetPart, startCycle, sendPoll, closeManifold_scanner, loadedPart, Table.get_map] at hrec
    split at hrec
    · cases hrec; exact emptyRecord_past _
    · cases hrec
  · have hroster : (resetPart s).plan.roster.get i = (loadedPlan (loadImage s.store.stored)).roster.get i := rfl
    rw [hroster] at hc
    cases himg : loadImage s.store.stored with
    | none =>
      rw [himg] at hc
      simp only [loadedPlan, Option.map_none, Option.getD_none, Table.get_fill] at hc
      cases hc
    | some m =>
      rw [himg] at hc
      simp only [loadedPlan, Option.map_some, Option.getD_some, Table.get_map, loadedRoster] at hc
      split at hc
      · cases hc; exact Nat.le_refl _
      · cases hc

theorem kept_stampsPast : Kept StampsPast where
  queue _ h := h.of_eq rfl rfl rfl rfl
  traffic _ _ _ _ h := h.of_eq rfl rfl rfl rfl
  owner := kept_owner StampsPast.decided
  reset _ := stampsPast_resetPart _
  clearPoll h := ⟨h.watch, h.manifold, fun i => (h.slots i).of_eq rfl rfl rfl⟩
  sendNext h := h.sendNext
  manifoldReply r h := h.takeManifoldReply r
  slotReply :=
    kept_slotReply (fun i r _ h => h.replyRecorded i r)
      (fun i p h => h.of_eq (takePosition_elapsed _ i p) (by rw [takePosition_gas]) (takePosition_scanner _ i p)
        (by rw [takePosition_plan]))
      (fun i h => h.of_eq (sealSlot_elapsed _ i) (by rw [sealSlot_gas]) (sealSlot_scanner _ i) (by rw [sealSlot_plan]))
      (fun i _ h =>
        h.of_eq (stickAndIssue_elapsed _ i) (by rw [stickAndIssue_gas]) (stickAndIssue_scanner _ i)
          (by rw [stickAndIssue_plan]))
      fun i _ h => h.retireDone i
  missReply a h := h.missReply a
  roundEvent {s} h := h.of_eq (roundEvent_elapsed s) (by rw [roundEvent_gas]) (roundEvent_scanner s) (roundEvent_roster s)
  takeOff _ _ h := h.of_eq rfl rfl rfl rfl
  nextExpiry _ _ h := h.of_eq rfl rfl rfl rfl
  restartTimer h := h.of_eq rfl rfl rfl rfl
  release h := h.of_eq rfl rfl rfl rfl
  clearMissed h := h.of_eq rfl rfl rfl rfl
  issueAll {s} h := h.of_eq (issueAll_elapsed s) (by rw [issueAll_gas]) (issueAll_scanner s) (by rw [issueAll_plan])
  takeGasBand _ h := h.of_eq rfl rfl rfl rfl
  enterShutIn _ h := h.of_eq rfl rfl rfl rfl
  travelTimeout {s} i _ h :=
    h.of_eq (stickAndIssue_elapsed s i) (by rw [stickAndIssue_gas]) (stickAndIssue_scanner s i)
      (by rw [stickAndIssue_plan])
  spendWatch h := h.of_eq rfl rfl rfl rfl
  raiseAlarm _ h := h.of_eq rfl rfl rfl rfl
  keySwitch _ h := h.of_eq rfl rfl rfl rfl
  followKey h := h.of_eq rfl rfl rfl rfl
  keyRelease {s} h :=
    h.of_slots (keyRelease_elapsed s) (by rw [keyRelease_gas]) (by rw [keyRelease_scanner]) fun i =>
      (h.slots i).of_eq (keyRelease_elapsed s) (by rw [keyRelease_scanner])
        (by rw [keyRelease_roster_get]; split <;> rfl)
  setContact _ _ h := h.of_eq rfl rfl rfl rfl
  followContact _ _ h := h.of_eq rfl rfl rfl rfl
  latch {s} j h :=
    h.of_eq (latchLine_elapsed _ j) (by rw [latchLine_gas]; rfl) (latchLine_scanner _ j) (by rw [latchLine_plan]; rfl)
  tick {s} h :=
    ⟨h.watch.trans (Nat.le_succ _),
      ⟨h.manifold.methane.mono (Nat.le_succ _), h.manifold.oxygen.mono (Nat.le_succ _),
        h.manifold.flow.mono (Nat.le_succ _), h.manifold.pressure.mono (Nat.le_succ _)⟩,
      fun i =>
        ⟨fun r hr =>
          have past := (h.slots i).record r hr
          ⟨past.methane.mono (Nat.le_succ _), past.oxygen.mono (Nat.le_succ _), past.flow.mono (Nat.le_succ _),
            past.pressure.mono (Nat.le_succ _), past.position.mono (Nat.le_succ _)⟩,
          fun c hc => ((h.slots i).commissioned c hc).trans (Nat.le_succ _)⟩⟩
  takeRollover c _ h :=
    h.of_eq (rollWindows_elapsed _ c) (by rw [takeRollover, rollWindows_gas]) (rollWindows_scanner _ c)
      (by rw [takeRollover, rollWindows_plan])
  settle {s} _ h := h.of_eq (settle_elapsed s) (by rw [settle_gas]) (settle_scanner s) (by rw [settle_plan])
  completeTest {s} _ h :=
    h.of_eq (completeTest_elapsed s) (by rw [completeTest_gas]) (completeTest_scanner s) (by rw [completeTest_plan])
  endPurge {s} _ h :=
    h.of_eq (endPurge_elapsed s) (by rw [endPurge_gas]) (endPurge_scanner s) (by rw [endPurge_plan])
  endWrite {s} crc bytes h :=
    h.of_eq (endWrite_elapsed s crc bytes) (by rw [endWrite_gas]) (endWrite_scanner s crc bytes)
      (by rw [endWrite_plan])

/-- The law of the times in its three parts. -/
theorem timesPast_iff (s : State) : TimesPast s ↔ StampsPast s ∧ MeasurePast s ∧ MovesPast s := by
  have hall : ∀ v : Option Nat, v.all (· ≤ s.elapsed) = true ↔ ∀ c, v = some c → c ≤ s.elapsed := fun v => by
    cases v <;> simp
  have hrecord : ∀ v : Option ReadingRecord,
      v.all (recordTimesOk s) = true ↔ ∀ r, v = some r → r.Past s.elapsed := fun v => by
    cases v <;> simp [recordTimesOk_iff]
  simp only [TimesPast, hall, hrecord, manifoldTimesOk_iff, moveTimeOk_iff]
  constructor
  · rintro ⟨hwatch, hmeasure, hmanifold, hslots⟩
    exact ⟨⟨hwatch, hmanifold, fun i => ⟨(hslots i).1, (hslots i).2.1⟩⟩, hmeasure, fun i => (hslots i).2.2⟩
  · rintro ⟨⟨hwatch, hmanifold, hslots⟩, hmeasure, hmoves⟩
    exact ⟨hwatch, hmeasure, hmanifold, fun i => ⟨(hslots i).record, (hslots i).commissioned, hmoves i⟩⟩

/-- Settles O60: the store's law, and the three parts of the law of the times, each kept by every step. -/
theorem stepKeepsStoreAndTimes : Obligations.StepKeepsStoreAndTimes := fun s t ht =>
  ⟨fun h => (storeLaw_iff t).2 (kept_storeLawful.step ((storeLaw_iff s).1 h) ht), fun h =>
    have ⟨hstamps, hmeasure, hmoves⟩ := (timesPast_iff s).1 h
    (timesPast_iff t).2
      ⟨kept_stampsPast.step hstamps ht, kept_measurePast.step hmeasure ht, kept_movesPast.step hmoves ht⟩⟩

end Sys2Proof.Machine
end

section
/-! PROOFS. The test set and the purge: what each procedure state holds, and that the slots it names are ACTIVE, kept
by every step. -/

namespace Sys2Proof.Machine

/-! ## The law over the procedure's own record -/

/-- The slots a procedure names: those of its test set, and its purge slot. -/
def Procedure.Uses (p : Procedure) (i : SlotIdx) : Prop := i ∈ p.testSet.map (·.slot) ∨ p.purgeSlot = some i

/-- The law of R126 and R141 over a procedure record, the slots it names in the class given. -/
structure Procedure.Lawful (A : SlotIdx → Prop) (p : Procedure) : Prop where
  holds : p.holds = true
  distinct : (p.testSet.map (·.slot)).Nodup
  results : p.results.length ≤ 16
  apart : ∀ i, p.purgeSlot = some i → i ∉ p.testSet.map (·.slot)
  uses : ∀ i, p.Uses i → A i

/-- What a test holds whatever its state, but for its set, which may have emptied. -/
structure Procedure.TestHeld (A : SlotIdx → Prop) (p : Procedure) : Prop where
  room : p.testSet.length ≤ 8
  duration : p.duration.any (within 60 1800) = true
  gatherExpiry : p.gatherExpiry = none
  purgeSlot : p.purgeSlot = none
  purgeExpiry : p.purgeExpiry = none
  distinct : (p.testSet.map (·.slot)).Nodup
  results : p.results.length ≤ 16
  slots : ∀ i ∈ p.testSet.map (·.slot), A i

/-- A test that is SETTLING or MEASURING, its set possibly emptied: what its examination starts from (R131, R133). -/
structure Procedure.Closing (A : SlotIdx → Prop) (p : Procedure) : Prop extends p.TestHeld A where
  timed : (p.state = .settling ∧ p.measureStart = none ∧ p.measureExpiry = none) ∨
    (p.state = .measuring ∧ p.measureStart.isSome = true ∧ p.measureExpiry.isSome = true)

/-- The slots that are ACTIVE. -/
def activeIn (s : State) (i : SlotIdx) : Prop := lifecycleOf s i = .active

theorem inTestSet_iff (s : State) (i : SlotIdx) : inTestSet s i = true ↔ i ∈ s.proc.testSet.map (·.slot) := by
  simp [inTestSet, List.any_eq_true]

theorem inTestSet_eq_false_iff (s : State) (i : SlotIdx) :
    inTestSet s i = false ↔ i ∉ s.proc.testSet.map (·.slot) := by
  rw [← inTestSet_iff, Bool.not_eq_true]

theorem isPurgeSlot_iff (s : State) (i : SlotIdx) : isPurgeSlot s i = true ↔ s.proc.purgeSlot = some i := by
  simp [isPurgeSlot]

theorem procedureLaw_iff (s : State) : ProcedureLaw s ↔ s.proc.Lawful (activeIn s) := by
  simp only [ProcedureLaw, inTestSet_iff, inTestSet_eq_false_iff, isPurgeSlot_iff]
  constructor
  · exact fun ⟨hholds, hdistinct, hresults, hslots⟩ =>
      ⟨hholds, hdistinct, hresults, fun i => (hslots i).1, fun i => (hslots i).2⟩
  · exact fun h => ⟨h.holds, h.distinct, h.results, fun i => ⟨h.apart i, h.uses i⟩⟩

section Records

variable {A : SlotIdx → Prop} {p : Procedure}

theorem Procedure.Lawful.mono {B : SlotIdx → Prop} (h : p.Lawful A) (hAB : ∀ i, p.Uses i → A i → B i) :
    p.Lawful B :=
  ⟨h.holds, h.distinct, h.results, h.apart, fun i hi => hAB i hi (h.uses i hi)⟩

/-- A closing test with a slot left is lawful. -/
theorem Procedure.Closing.lawful (h : p.Closing A) (hset : p.testSet ≠ []) : p.Lawful A where
  holds := by
    have hlen : 1 ≤ p.testSet.length := List.length_pos_of_ne_nil hset
    have htest : p.holdsTest = true := by
      rw [Procedure.holdsTest, h.duration, Bool.and_true, within_iff]; exact ⟨hlen, h.room⟩
    rcases h.timed with ⟨hstate, hstart, hexpiry⟩ | ⟨hstate, hstart, hexpiry⟩ <;>
      simp [Procedure.holds, hstate, htest, hstart, hexpiry, h.gatherExpiry, h.purgeSlot, h.purgeExpiry]
  distinct := h.distinct
  results := h.results
  apart i hi := by rw [h.purgeSlot] at hi; cases hi
  uses i hi := hi.elim (h.slots i) fun hi => by rw [h.purgeSlot] at hi; cases hi

theorem Procedure.lawful_finish (hresults : p.results.length ≤ 16) : p.finish.Lawful A where
  holds := rfl
  distinct := List.nodup_nil
  results := hresults
  apart _ hi := by cases hi
  uses _ hi := by rcases hi with hi | hi <;> cases hi

/-- What the law says of a test that is not GATHERING, and is not accompanied by a purge. -/
theorem Procedure.Lawful.testHeld (h : p.Lawful A)
    (hstate : p.state = .settling ∨ p.state = .measuring ∨ p.state = .suspended) : p.TestHeld A := by
  have hholds := h.holds
  rcases hstate with hstate | hstate | hstate <;>
    simp only [Procedure.holds, hstate, Procedure.holdsTest, Bool.and_eq_true, within_iff, Bool.not_eq_true',
      Option.isNone_iff_eq_none, Option.isSome_eq_false_iff] at hholds <;>
    obtain ⟨⟨⟨⟨⟨-, hroom⟩, hduration⟩, hgather⟩, -⟩, hslot, hexpiry⟩ := hholds <;>
    exact ⟨hroom, hduration, hgather, hslot, hexpiry, h.distinct, h.results, fun i hi => h.uses i (.inl hi)⟩

theorem Procedure.Lawful.closing (h : p.Lawful A) (hstate : p.state = .settling ∨ p.state = .measuring) :
    p.Closing A := by
  refine ⟨h.testHeld (by tauto), ?_⟩
  have hholds := h.holds
  rcases hstate with hstate | hstate <;>
    simp only [Procedure.holds, hstate, Bool.and_eq_true, Option.isNone_iff_eq_none] at hholds
  · exact .inl ⟨hstate, hholds.1.2⟩
  · exact .inr ⟨hstate, hholds.1.2⟩

/-- A GATHERING test, or a suspended one, settles. -/
theorem Procedure.Lawful.settling (h : p.Lawful A) (hstate : p.state = .gathering ∨ p.state = .suspended) :
    Procedure.Closing A { p with state := .settling, gatherExpiry := none } := by
  have hholds := h.holds
  rcases hstate with hstate | hstate <;>
    simp only [Procedure.holds, hstate, Procedure.holdsTest, Bool.and_eq_true, within_iff,
      Option.isNone_iff_eq_none] at hholds <;>
    obtain ⟨⟨⟨⟨⟨-, hroom⟩, hduration⟩, -⟩, htimes⟩, hslot, hexpiry⟩ := hholds <;>
    exact ⟨⟨hroom, hduration, rfl, hslot, hexpiry, h.distinct, h.results, fun i hi => h.uses i (.inl hi)⟩,
      .inl ⟨rfl, htimes⟩⟩

theorem mem_slots_leave {gone : TestPlace → Bool} {mk : TestPlace → ResultRecord} {i : SlotIdx}
    (hi : i ∈ (p.leave gone mk).testSet.map (·.slot)) : i ∈ p.testSet.map (·.slot) :=
  ((List.filter_sublist (l := p.testSet)).map _).subset hi

theorem Procedure.TestHeld.leave (h : p.TestHeld A) (gone : TestPlace → Bool) (mk : TestPlace → ResultRecord) :
    (p.leave gone mk).TestHeld A where
  room := (List.length_filter_le _ _).trans h.room
  duration := h.duration
  gatherExpiry := h.gatherExpiry
  purgeSlot := h.purgeSlot
  purgeExpiry := h.purgeExpiry
  distinct := h.distinct.sublist (List.filter_sublist.map _)
  results := (length_appendFor mk _ h.results).trans_le (min_le_left _ _)
  slots i hi := h.slots i (mem_slots_leave hi)

theorem Procedure.Closing.leave (h : p.Closing A) (gone : TestPlace → Bool) (mk : TestPlace → ResultRecord) :
    (p.leave gone mk).Closing A := ⟨h.toTestHeld.leave gone mk, h.timed⟩

/-- Places marked or given their pressures keep their slots. -/
theorem Procedure.TestHeld.mark (h : p.TestHeld A) {f : TestPlace → TestPlace} (hf : ∀ t, (f t).slot = t.slot) :
    Procedure.TestHeld A { p with testSet := p.testSet.map f } := by
  have hslots : (p.testSet.map f).map (·.slot) = p.testSet.map (·.slot) := by simp [Function.comp_def, hf]
  exact
    { h with
      room := (List.length_map f).trans_le h.room
      distinct := hslots ▸ h.distinct
      slots := fun i hi => h.slots i (hslots ▸ hi) }

end Records

/-! ## The operations on the procedure -/

section Operations

variable {A : SlotIdx → Prop} {s : State}

theorem finishProcedure_proc (s : State) : (finishProcedure s).proc = s.proc.finish := rfl

theorem finishIfEmpty_lawful (h : s.proc.Closing A) : (finishIfEmpty s).proc.Lawful A := by
  rw [finishIfEmpty]; split
  · exact Procedure.lawful_finish h.results
  next hset => exact h.lawful (by simpa using hset)

theorem enterMeasuring_lawful (h : s.proc.TestHeld A) : (enterMeasuring s).proc.Lawful A := by
  have hheld : (measuringProc s).TestHeld A :=
    Procedure.TestHeld.leave (p := { s.proc with state := .measuring }) { h with } _ _
  rw [enterMeasuring]; split
  · exact Procedure.lawful_finish hheld.results
  next hset =>
    have hstarted : (startedMeasuring s (measuringProc s)).Closing A :=
      ⟨{ hheld.mark (f := fun t => { t with startPressure := pressureOf s t.slot }) (fun _ => rfl) with },
        .inr ⟨rfl, rfl, rfl⟩⟩
    refine hstarted.lawful fun hnone => hset ?_
    rw [List.map_eq_nil_iff.1 hnone]
    rfl

theorem examineSettling_lawful (h : s.proc.Closing A) : (examineSettling s).proc.Lawful A := by
  rw [examineSettling]; split
  · exact Procedure.lawful_finish h.results
  next hset =>
    split
    · exact enterMeasuring_lawful h.toTestHeld
    · exact h.lawful (by simpa using hset)

theorem sealSlot_lawful (i : SlotIdx) (h : s.proc.Lawful A) : (sealSlot i s).proc.Lawful A := by
  rw [sealSlot]; split
  next hset =>
    simp only [Bool.and_eq_true, beq_iff_eq] at hset
    have hclosing := h.closing (.inl hset.1)
    refine examineSettling_lawful ⟨?_, hclosing.timed⟩
    exact hclosing.mark fun t => by split <;> rfl
  · exact h

theorem dropStuck_lawful (i : SlotIdx) (h : s.proc.Lawful A) : (dropStuck i s).proc.Lawful A := by
  rw [dropStuck]; split
  next hset =>
    simp only [Bool.and_eq_true, beq_iff_eq] at hset
    exact examineSettling_lawful ((h.closing (.inl hset.1)).leave _ _)
  · exact h

theorem dropSilent_lawful (i : SlotIdx) (h : s.proc.Lawful A) : (dropSilent i s).proc.Lawful A := by
  simp only [dropSilent]; split
  next hset =>
    simp only [Bool.and_eq_true, beq_iff_eq] at hset
    exact finishIfEmpty_lawful ((h.closing (.inr hset.1)).leave _ _)
  · exact h

theorem settle_lawful (h : s.proc.Lawful A) (hstate : s.proc.state = .gathering ∨ s.proc.state = .suspended) :
    (settle s).proc.Lawful A := by
  rw [settle, issueAll_proc]
  exact finishIfEmpty_lawful ((h.settling hstate).leave _ _)

theorem stickValve_lawful (i : SlotIdx) (h : s.proc.Lawful A) : (stickValve i s).proc.Lawful A := by
  rw [stickValve]; split
  · exact h
  · refine dropStuck_lawful i ?_
    exact h

theorem completeTest_lawful (h : s.proc.Lawful A) : (completeTest s).proc.Lawful A :=
  Procedure.lawful_finish ((length_appendFor _ _ h.results).trans_le (min_le_left _ _))

theorem endPurge_lawful (h : s.proc.Lawful A)
    (hstate : s.proc.state = .purging ∨ s.proc.state = .suspendedPurging) : (endPurge s).proc.Lawful A where
  holds := by
    have hholds := h.holds
    rcases hstate with hstate | hstate <;>
      simp only [Procedure.holds, hstate, Bool.and_eq_true] at hholds <;>
      simp_all [endPurge, Procedure.holds, Procedure.holdsTest, Procedure.holdsNoTest]
  distinct := h.distinct
  results := h.results
  apart _ hi := by cases hi
  uses i hi := hi.elim (fun hi => h.uses i (.inl hi)) fun hi => by cases hi

end Operations

/-! ## Every step -/

/-- The law of the procedure, its slots ACTIVE. -/
def ProcLawful (s : State) : Prop := s.proc.Lawful (activeIn s)

/-- The lifecycles unchanged, the law is that of the procedure's record. -/
theorem ProcLawful.of_roster {s t : State} (h : t.proc.Lawful (activeIn s)) (hroster : t.plan.roster = s.plan.roster) :
    ProcLawful t :=
  h.mono fun i _ hi => (lifecycleOf_congr hroster i).trans hi

theorem ProcLawful.of_eq {s t : State} (h : ProcLawful s) (hproc : t.proc = s.proc)
    (hlife : ∀ i, s.proc.Uses i → activeIn s i → activeIn t i) : ProcLawful t := by
  unfold ProcLawful
  rw [hproc]
  exact h.mono hlife

theorem ProcLawful.of_proc_plan {s t : State} (h : ProcLawful s) (hproc : t.proc = s.proc) (hplan : t.plan = s.plan) :
    ProcLawful t :=
  h.of_eq hproc fun i _ hi => (lifecycleOf_congr (congrArg PlanTable.roster hplan) i).trans hi

theorem ProcLawful.of_lifecycle {s t : State} (h : ProcLawful s) (hproc : t.proc = s.proc)
    (hlife : ∀ i, lifecycleOf t i = lifecycleOf s i) : ProcLawful t :=
  h.of_eq hproc fun i _ hi => (hlife i).trans hi

/-- A slot outside the test and the purge may take any lifecycle. -/
theorem ProcLawful.setRoster {s t : State} {i : SlotIdx} {r : Roster} (h : ProcLawful s) (hproc : t.proc = s.proc)
    (hroster : t.plan.roster = s.plan.roster.set i r) (hfree : ¬s.proc.Uses i) : ProcLawful t := by
  refine h.of_eq hproc fun j hj hactive => ?_
  have hne : j ≠ i := fun hji => hfree (hji ▸ hj)
  rw [activeIn, lifecycleOf, hroster, Table.get_set, if_neg hne]
  exact hactive

/-- A slot that is not ACTIVE is named by no procedure. -/
theorem ProcLawful.not_uses {s : State} (h : ProcLawful s) {i : SlotIdx} (hi : lifecycleOf s i ≠ .active) :
    ¬s.proc.Uses i := fun huses => hi (h.uses i huses)

theorem ProcLawful.stickValve {s : State} (h : ProcLawful s) (i : SlotIdx) : ProcLawful (stickValve i s) :=
  ProcLawful.of_roster (stickValve_lawful i h) (by rw [stickValve_plan])

theorem ProcLawful.issueZone {s : State} (h : ProcLawful s) (k : ZoneIdx) : ProcLawful (issueZone k s) :=
  h.of_proc_plan (issueZone_proc s k) (issueZone_plan s k)

theorem ProcLawful.stickAndIssue {s : State} (h : ProcLawful s) (i : SlotIdx) : ProcLawful (stickAndIssue i s) :=
  kept_stickAndIssue (fun k h => h.issueZone k) i (h.stickValve i) h

theorem ProcLawful.settle {s : State} (h : ProcLawful s)
    (hstate : s.proc.state = .gathering ∨ s.proc.state = .suspended) : ProcLawful (settle s) :=
  ProcLawful.of_roster (settle_lawful h hstate) (by rw [settle_plan])

theorem fit_active {s : State} {i : SlotIdx} (h : fit s i = true) : lifecycleOf s i = .active := by
  simp only [fit, Bool.and_eq_true, beq_iff_eq] at h
  exact h.1.1.1.1.1.1

theorem ProcLawful.beginTest {s : State} (h : ProcLawful s) {i : SlotIdx} {d e : Nat} (hd : within 60 1800 d = true)
    (hidle : s.proc.state = .idle) (hfit : fit s i = true) :
    Procedure.Lawful (activeIn s)
      { s.proc with
        state := .gathering, testSet := [newPlace i], duration := some d, gatherExpiry := some e, errorFlag := false } := by
  have hholds := h.holds
  simp only [Procedure.holds, hidle, Bool.and_eq_true] at hholds
  obtain ⟨⟨-, hunmeasured⟩, hunpurged⟩ := hholds
  have hnone : s.proc.purgeSlot = none := by simpa using hunpurged.1
  refine ⟨?_, List.nodup_singleton _, h.results, fun j hj => ?_, fun j hj => ?_⟩
  · have htest : within 1 8 1 = true := rfl
    simp [Procedure.holds, Procedure.holdsTest, htest, hd, hunmeasured, hunpurged]
  · exact absurd (hnone.symm.trans hj) nofun
  · rcases hj with hj | hj
    · rw [List.mem_singleton.1 hj]; exact fit_active hfit
    · exact absurd (hnone.symm.trans hj) nofun

theorem ProcLawful.joinTest {s : State} (h : ProcLawful s) {i : SlotIdx} {e : Nat} (hgather : s.proc.state = .gathering)
    (hnew : inTestSet s i = false) (hroom : s.proc.testSet.length < 8) (hfit : fit s i = true) :
    Procedure.Lawful (activeIn s)
      { s.proc with testSet := s.proc.testSet ++ [newPlace i], gatherExpiry := some e } := by
  have hholds := h.holds
  simp only [Procedure.holds, hgather, Procedure.holdsTest, Bool.and_eq_true, within_iff] at hholds
  obtain ⟨⟨⟨⟨-, hduration⟩, -⟩, hunmeasured⟩, hunpurged⟩ := hholds
  have hnone : s.proc.purgeSlot = none := by simpa using hunpurged.1
  have hslots : (s.proc.testSet ++ [newPlace i]).map (·.slot) = s.proc.testSet.map (·.slot) ++ [i] := by
    rw [List.map_append]; rfl
  refine ⟨?_, ?_, h.results, fun j hj => ?_, fun j hj => ?_⟩
  · have htest : within 1 8 (s.proc.testSet.length + 1) = true := within_iff.2 ⟨by omega, hroom⟩
    simp [Procedure.holds, hgather, Procedure.holdsTest, htest, hduration, hunmeasured, hunpurged]
  · rw [hslots, List.nodup_append_comm]
    exact List.nodup_cons.2 ⟨(inTestSet_eq_false_iff s i).1 hnew, h.distinct⟩
  · exact absurd (hnone.symm.trans hj) nofun
  · rcases hj with hj | hj
    · rw [hslots, List.mem_append, List.mem_singleton] at hj
      rcases hj with hj | rfl
      exacts [h.uses j (.inl hj), fit_active hfit]
    · exact absurd (hnone.symm.trans hj) nofun

/-- A window restarted for the set as it is. -/
theorem ProcLawful.restartWindow {s : State} (h : ProcLawful s) {e : Nat} (hgather : s.proc.state = .gathering) :
    Procedure.Lawful (activeIn s) { s.proc with gatherExpiry := some e } := by
  refine { h with holds := ?_ }
  have hholds := h.holds
  simp only [Procedure.holds, hgather, Bool.and_eq_true] at hholds ⊢
  exact ⟨⟨⟨hholds.1.1.1, rfl⟩, hholds.1.2⟩, hholds.2⟩

theorem ProcLawful.suspend {s : State} (h : ProcLawful s) (hclosing : testClosing s = true) :
    Procedure.Lawful (activeIn s)
      { s.proc with
        state := .suspended
        testSet := s.proc.testSet.map fun t => newPlace t.slot
        measureStart := none
        measureExpiry := none } := by
  have hstate : s.proc.state = .settling ∨ s.proc.state = .measuring := by simpa [testClosing] using hclosing
  have hheld := (h.testHeld (by tauto)).mark (f := fun t => newPlace t.slot) fun _ => rfl
  refine ⟨?_, hheld.distinct, h.results, fun j hj => ?_, fun j hj => hj.elim (hheld.slots j) fun hj => ?_⟩
  · have hlen : 1 ≤ s.proc.testSet.length := by
      have hholds := h.holds
      rcases hstate with hstate | hstate <;>
        simp only [Procedure.holds, hstate, Procedure.holdsTest, Bool.and_eq_true, within_iff] at hholds <;>
        exact hholds.1.1.1.1.1
    have held := h.testHeld (by tauto)
    have htest : within 1 8 s.proc.testSet.length = true := within_iff.2 ⟨hlen, held.room⟩
    simp [Procedure.holds, Procedure.holdsTest, htest, held.duration, held.gatherExpiry, held.purgeSlot,
      held.purgeExpiry]
  · exact absurd (hheld.purgeSlot.symm.trans hj) nofun
  · exact absurd (hheld.purgeSlot.symm.trans hj) nofun

theorem ProcLawful.startPurge {s : State} (h : ProcLawful s) {i : SlotIdx} (n : Nat)
    (hstate : s.proc.state = .idle ∨ s.proc.state = .suspended) (hlife : lifecycleOf s i = .active)
    (htest : s.proc.state = .suspended → inTestSet s i = false) :
    (Machine.startPurge i n s).proc.Lawful (activeIn s) := by
  have hproc : (Machine.startPurge i n s).proc =
      { s.proc with
        state := if s.proc.state == .suspended then .suspendedPurging else .purging
        purgeSlot := some i, purgeExpiry := some (s.elapsed + n), errorFlag := false } := by
    rw [Machine.startPurge, issueZone_proc]; rfl
  have hholds := h.holds
  have hapart : i ∉ s.proc.testSet.map (·.slot) := by
    rcases hstate with hstate | hstate
    · simp only [Procedure.holds, hstate, Procedure.holdsNoTest, Bool.and_eq_true, List.isEmpty_iff] at hholds
      rw [hholds.1.1.1.1]
      exact List.not_mem_nil
    · exact (inTestSet_eq_false_iff s i).1 (htest hstate)
  rw [hproc]
  refine ⟨?_, h.distinct, h.results, fun j hj => Option.some.inj hj ▸ hapart, fun j hj => ?_⟩
  · rcases hstate with hstate | hstate <;>
      simp only [Procedure.holds, hstate, Bool.and_eq_true] at hholds <;>
      obtain ⟨⟨⟨hset, hgather⟩, hunmeasured⟩, -⟩ := hholds <;>
      simp_all [Procedure.holds, Procedure.holdsTest, Procedure.holdsNoTest]
  · rcases hj with hj | hj
    exacts [h.uses j (.inl hj), Option.some.inj hj ▸ hlife]

theorem ProcLawful.decided {l : Link} {s t : State} (h : ProcLawful s) (hd : Decided l s t) : ProcLawful t := by
  cases hd
  case abort mk ts =>
    have hresults : (appendFor mk ts s.proc.results).length ≤ 16 :=
      (length_appendFor mk ts h.results).trans_le (min_le_left _ _)
    exact ProcLawful.of_roster (s := s) (Procedure.lawful_finish hresults) rfl
  case commission i seed _ hlife =>
    exact h.setRoster (i := i) rfl rfl (h.not_uses (by rw [hlife]; decide))
  case retire i _ htest hpurge =>
    refine h.setRoster (i := i) (by simp) (by simp; rfl) ?_
    rintro (hi | hi)
    · exact (inTestSet_eq_false_iff s i).1 htest hi
    · rw [(isPurgeSlot_iff s i).2 hi] at hpurge; cases hpurge
  case reclaim i hlife =>
    exact h.setRoster (i := i) rfl rfl (h.not_uses (by rw [hlife]; decide))
  case manual i m _ _ =>
    refine h.of_lifecycle rfl fun j => ?_
    rw [setMode, lifecycleOf_setRoster]; split
    next hj => rw [hj]; rfl
    · rfl
  case beginTest i d hd hidle hfit => exact ProcLawful.of_roster (s := s) (h.beginTest hd hidle hfit) rfl
  case restartTest hgather => exact ProcLawful.of_roster (s := s) (h.restartWindow hgather) rfl
  case joinTest i hgather hnew hroom hfit =>
    exact ProcLawful.of_roster (s := s) (h.joinTest hgather hnew hroom hfit) rfl
  case suspend hclosing => exact ProcLawful.of_roster (s := s) (h.suspend hclosing) rfl
  case resume hsusp => exact h.settle (.inr hsusp)
  case purge i n hstate hlife htest =>
    exact ProcLawful.of_roster (h.startPurge n hstate hlife htest) (by rw [startPurge_plan])
  case pendingPlan | adopting => exact h.of_lifecycle rfl fun _ => rfl
  all_goals exact h.of_proc_plan (by simp) (by simp)

theorem procLawful_resetPart (s : State) : ProcLawful (resetPart s) :=
  ⟨rfl, List.nodup_nil, Nat.zero_le _, nofun, fun _ hi => by rcases hi with hi | hi <;> cases hi⟩

theorem ProcLawful.missReply {s : State} (h : ProcLawful s) (a : HeadAddr) : ProcLawful (missReply a s) := by
  refine ProcLawful.of_roster (s := s) ?_ (by rw [missReply_plan])
  simp only [Machine.missReply]; split
  · rw [raiseIf_proc]; exact h
  · split
    · exact h
    · split
      · refine dropSilent_lawful _ ?_
        exact h
      · exact h

theorem ProcLawful.takePosition {s : State} (h : ProcLawful s) (i : SlotIdx) (p : Nat) :
    ProcLawful (takePosition i p s) := h.of_proc_plan (takePosition_proc s i p) (takePosition_plan s i p)

theorem kept_procLawful : Kept ProcLawful where
  queue _ h := h
  traffic _ _ _ _ h := h
  owner := kept_owner ProcLawful.decided
  reset {s} _ := procLawful_resetPart s
  clearPoll h := h
  sendNext {s} h := h.of_proc_plan (sendNext_proc s) (sendNext_plan s)
  manifoldReply {s} r h := h.of_proc_plan (takeManifoldReply_proc s r) (takeManifoldReply_plan s r)
  slotReply :=
    kept_slotReply (fun i r _ h => h.of_lifecycle rfl (lifecycleOf_replyRecorded i r _))
      (fun i p h => h.takePosition i p)
      (fun i h => ProcLawful.of_roster (sealSlot_lawful i h) (by rw [sealSlot_plan])) (fun i _ h => h.stickAndIssue i)
      fun i hlife h => h.setRoster (i := i) rfl rfl (h.not_uses (by rw [hlife]; decide))
  missReply a h := h.missReply a
  roundEvent {s} h :=
    kept_roundEvent (fun k h => h.issueZone k)
      (fun hadopt h => by
        rw [completeAdoption_of_adopting hadopt]
        exact kept_foldl_stickValve (fun i h => h.stickValve i) _ (h.of_lifecycle rfl fun _ => rfl))
      (fun _ h => h.of_proc_plan (computeRound_proc _) (computeRound_plan _))
      (fun h => h) h
  takeOff _ _ h := h
  nextExpiry _ _ h := h
  restartTimer h := h
  release h := h
  clearMissed h := h
  issueAll {s} h := h.of_proc_plan (issueAll_proc s) (issueAll_plan s)
  takeGasBand _ h := h
  enterShutIn _ h := h
  travelTimeout i _ h := h.stickAndIssue i
  spendWatch h := h
  raiseAlarm _ h := h
  keySwitch _ h := h
  followKey h := h
  keyRelease {s} h := h.of_lifecycle (keyRelease_proc s) (lifecycleOf_keyRelease s)
  setContact _ _ h := h
  followContact _ _ h := h
  latch {s} j h := ProcLawful.of_proc_plan (s := followContact j s) h (latchLine_proc _ j) (latchLine_plan _ j)
  tick h := h
  takeRollover c _ h := ProcLawful.of_proc_plan h (rollWindows_proc _ c) (rollWindows_plan _ c)
  settle hstate h := h.settle (.inl hstate)
  completeTest _ h := ProcLawful.of_roster (completeTest_lawful h) rfl
  endPurge hstate h := ProcLawful.of_roster (endPurge_lawful h hstate) rfl
  endWrite {s} crc bytes h := h.of_proc_plan (endWrite_proc s crc bytes) (endWrite_plan s crc bytes)

/-- Settles O59: the law over the procedure's record, kept by the traffic, the owners and the events. -/
theorem stepKeepsProcedure : Obligations.StepKeepsProcedure := fun s t h ht =>
  (procedureLaw_iff t).2 (kept_procLawful.step ((procedureLaw_iff s).1 h) ht)

end Sys2Proof.Machine
end

section
/-! PROOFS. The motion queues and the valves of slots that are not ACTIVE, kept lawful by every step. -/

namespace Sys2Proof.Machine

/-! ## The law valve by valve and queue by queue -/

/-- What a slot's lifecycle asks of its valve (R15 to R18, R81). -/
structure Valve.LawfulIn (life : Lifecycle) (v : Valve) : Prop where
  closed : life ≠ .active → v.target = 0 ∧ v.commanded = 0
  resting : life.inService = false → v.state = .atRest

/-- What the law asks of a zone's queue. -/
structure QueueFits (s : State) (k : ZoneIdx) (q : List QueueEntry) : Prop where
  zone : ∀ e ∈ q, zoneAt s e.slot = k
  distinct : (q.map (·.slot)).Nodup
  sorted : q.Pairwise fun a b => entryBefore a b = true
  may : ∀ e ∈ q, mayQueue s e.slot = true

/-- The motion law, in its parts. -/
structure MotionLawful (s : State) : Prop where
  queues : ∀ k, QueueFits s k (s.motion.queues.get k)
  valves : ∀ i, (valveOf s i).LawfulIn (lifecycleOf s i)

theorem motionLaw_iff (s : State) : MotionLaw s ↔ MotionLawful s := by
  constructor
  · exact fun ⟨hqueues, hvalves⟩ =>
      ⟨fun k => ⟨(hqueues k).1.1, (hqueues k).1.2.1, (hqueues k).1.2.2, (hqueues k).2⟩,
        fun i => ⟨(hvalves i).1, (hvalves i).2⟩⟩
  · exact fun h =>
      ⟨fun k => ⟨⟨(h.queues k).zone, (h.queues k).distinct, (h.queues k).sorted⟩, (h.queues k).may⟩,
        fun i => ⟨(h.valves i).closed, (h.valves i).resting⟩⟩

theorem mayQueue_iff (s : State) (i : SlotIdx) :
    mayQueue s i = true ↔ lifecycleOf s i = .active ∧ (valveOf s i).isStuck = false ∧ isPurgeSlot s i = false := by
  simp [mayQueue, and_assoc]

theorem mayQueue_mono {s t : State} {i : SlotIdx} (hlife : lifecycleOf s i = .active → lifecycleOf t i = .active)
    (hstuck : (valveOf t i).isStuck = true → (valveOf s i).isStuck = true)
    (hpurge : isPurgeSlot t i = true → isPurgeSlot s i = true) (h : mayQueue s i = true) : mayQueue t i = true := by
  obtain ⟨hactive, hfree, hidle⟩ := (mayQueue_iff s i).1 h
  refine (mayQueue_iff t i).2 ⟨hlife hactive, Bool.eq_false_iff.2 fun hs => ?_, Bool.eq_false_iff.2 fun hp => ?_⟩
  · rw [hstuck hs] at hfree; cases hfree
  · rw [hpurge hp] at hidle; cases hidle

theorem Valve.lawfulIn_active {v : Valve} : v.LawfulIn .active := ⟨fun h => absurd rfl h, fun h => by cases h⟩

theorem Valve.lawfulIn_rested (life : Lifecycle) : restedValve.LawfulIn life := ⟨fun _ => ⟨rfl, rfl⟩, fun _ => rfl⟩

theorem Valve.lawfulIn_urgentClose (life : Lifecycle) (now : Nat) (v : Valve) :
    (v.urgentClose life now).LawfulIn life :=
  ⟨fun _ => ⟨rfl, rfl⟩, fun h => Valve.urgentClose_state_of_outOfService now h⟩

/-- A valve of a slot in service may take any state. -/
theorem Valve.LawfulIn.withState {life : Lifecycle} {v : Valve} (h : v.LawfulIn life) (x : ValveState)
    (hx : life.inService = true ∨ x = .atRest) : ({ v with state := x } : Valve).LawfulIn life :=
  ⟨h.closed, fun hout => hx.elim (fun hin => by rw [hout] at hin; cases hin) id⟩

section Keeps

variable {s t : State} (h : MotionLawful s)

include h

/-- Entries taken out, and valves written within what their slots ask. -/
theorem MotionLawful.of_sublist (hactive : t.plan.active = s.plan.active)
    (hqueues : ∀ k, (t.motion.queues.get k).Sublist (s.motion.queues.get k))
    (hmay : ∀ k, ∀ e ∈ t.motion.queues.get k, mayQueue s e.slot = true → mayQueue t e.slot = true)
    (hvalves : ∀ i, (valveOf t i).LawfulIn (lifecycleOf t i)) : MotionLawful t where
  queues k :=
    { zone := fun e he => by
        rw [zoneAt, hactive]
        exact (h.queues k).zone e ((hqueues k).subset he)
      distinct := (h.queues k).distinct.sublist ((hqueues k).map _)
      sorted := (h.queues k).sorted.sublist (hqueues k)
      may := fun e he => hmay k e he ((h.queues k).may e ((hqueues k).subset he)) }
  valves := hvalves

theorem MotionLawful.of_frame (hactive : t.plan.active = s.plan.active) (hmotion : t.motion = s.motion)
    (hlife : ∀ i, lifecycleOf t i = lifecycleOf s i)
    (hpurge : ∀ i, isPurgeSlot t i = true → isPurgeSlot s i = true) : MotionLawful t := by
  have hvalve : ∀ i, valveOf t i = valveOf s i := fun i => by rw [valveOf, valveOf, hmotion]
  refine h.of_sublist hactive (fun k => by rw [hmotion]) (fun k e _ => ?_) fun i => ?_
  · exact mayQueue_mono (fun hi => (hlife _).trans hi) (fun hi => hvalve e.slot ▸ hi) (hpurge e.slot)
  · rw [hvalve, hlife]; exact h.valves i

theorem MotionLawful.of_plan (hplan : t.plan = s.plan) (hmotion : t.motion = s.motion)
    (hpurge : ∀ i, isPurgeSlot t i = true → isPurgeSlot s i = true) : MotionLawful t :=
  h.of_frame (by rw [hplan]) hmotion (lifecycleOf_congr (by rw [hplan])) hpurge

theorem MotionLawful.of_proc (hplan : t.plan = s.plan) (hmotion : t.motion = s.motion) (hproc : t.proc = s.proc) :
    MotionLawful t :=
  h.of_plan hplan hmotion fun i hi => by rwa [isPurgeSlot, hproc] at hi

theorem MotionLawful.removeEntries (sel : SlotIdx → Bool) : MotionLawful (removeEntries sel s) :=
  h.of_sublist rfl (fun k => by rw [removeEntries_queues_get]; exact List.filter_sublist)
    (fun _ _ _ hmay => hmay) h.valves

theorem MotionLawful.setValve (i : SlotIdx) {v : Valve} (hv : v.LawfulIn (lifecycleOf s i))
    (hstuck : v.isStuck = true → (valveOf s i).isStuck = true) : MotionLawful (setValve i v s) := by
  refine h.of_sublist rfl (fun k => List.Sublist.refl _) (fun k e _ => mayQueue_mono id ?_ id) fun j => ?_
  · rw [valveOf_setValve]; split
    next hslot => rw [hslot]; exact hstuck
    · exact id
  · rw [valveOf_setValve]; split
    next hj => rw [hj]; exact hv
    · exact h.valves j

theorem MotionLawful.urgentClose (sel : SlotIdx → Bool) : MotionLawful (urgentClose sel s) := by
  refine h.of_sublist rfl (fun k => by rw [urgentClose_queues_get]; exact List.filter_sublist) (fun k e he => ?_)
    fun i => ?_
  · rw [urgentClose_queues_get, List.mem_filter] at he
    refine mayQueue_mono id ?_ id
    rw [valveOf_urgentClose, if_neg (by simpa using he.2)]
    exact id
  · rw [valveOf_urgentClose]; split
    · exact Valve.lawfulIn_urgentClose _ _ _
    · exact h.valves i

theorem MotionLawful.issueEntry {k : ZoneIdx} {e : QueueEntry} (he : e ∈ s.motion.queues.get k) :
    MotionLawful (issueEntry k e s) := by
  have hlife : lifecycleOf s e.slot = .active := ((mayQueue_iff s e.slot).1 ((h.queues k).may e he)).1
  refine h.of_sublist rfl (fun j => ?_) (fun j x _ => mayQueue_mono id ?_ id) fun i => ?_
  · rw [issueEntry_queues_get]; split
    next hj => rw [hj]; exact List.erase_sublist
    · exact List.Sublist.refl _
  · rw [valveOf_issueEntry]; split
    · exact fun hs => by cases hs
    · exact id
  · rw [valveOf_issueEntry]; split
    next hi =>
      have hactive : lifecycleOf (Machine.issueEntry k e s) i = .active := hi ▸ hlife
      rw [hactive]; exact Valve.lawfulIn_active
    · exact h.valves i

end Keeps

theorem MotionLawful.issueLoop {s : State} (h : MotionLawful s) (n : Nat) (k : ZoneIdx) :
    MotionLawful (issueLoop n k s) := by
  induction n generalizing s with
  | zero => exact h
  | succ n ih =>
    rw [Machine.issueLoop]; split
    · exact h
    next e hnext => exact ih (h.issueEntry (nextIssue_some hnext).2.1)

theorem MotionLawful.issueZone {s : State} (h : MotionLawful s) (k : ZoneIdx) : MotionLawful (issueZone k s) :=
  h.issueLoop _ k

theorem MotionLawful.issueAll {s : State} (h : MotionLawful s) : MotionLawful (issueAll s) :=
  kept_issueAll (fun k h => h.issueZone k) h

theorem MotionLawful.closeSlot {s : State} (h : MotionLawful s) (i : SlotIdx) : MotionLawful (closeSlot i s) :=
  (h.urgentClose _).issueZone _

theorem MotionLawful.closeSlots {s : State} (h : MotionLawful s) (sel : SlotIdx → Bool) :
    MotionLawful (closeSlots sel s) := (h.urgentClose _).issueAll

/-! ## Targets handed by a round (R73, R74) -/

/-- What a round may hand a slot: any target to one that may have an entry, 0 to one that is not ACTIVE. -/
def Handable (s : State) (i : SlotIdx) (u : Nat) : Prop :=
  mayQueue s i = true ∨ (lifecycleOf s i ≠ .active ∧ u = 0)

theorem entryFor_slot {s : State} {round place : Nat} {i : SlotIdx} {u : Nat} {e : QueueEntry}
    (h : entryFor s round place i u = some e) : e.slot = i := by
  simp only [entryFor] at h
  split at h
  · exact Option.some.inj h ▸ rfl
  · split at h
    · exact Option.some.inj h ▸ rfl
    · cases h

theorem mem_newEntries {s : State} {round : Nat} {hands : SlotIdx → Option Nat} {place : SlotIdx → Nat} {k : ZoneIdx}
    {e : QueueEntry} (h : e ∈ newEntries s round hands place k) :
    zoneAt s e.slot = k ∧ ∃ u, hands e.slot = some u ∧ entryFor s round (place e.slot) e.slot u = some e := by
  rw [newEntries, List.mem_filterMap] at h
  obtain ⟨i, -, hi⟩ := h
  split at hi
  next hzone =>
    obtain ⟨u, hu, he⟩ := Option.bind_eq_some_iff.1 hi
    obtain rfl := entryFor_slot he
    exact ⟨by simpa using hzone, u, hu, he⟩
  · cases hi

theorem newEntries_nodup (s : State) (round : Nat) (hands : SlotIdx → Option Nat) (place : SlotIdx → Nat)
    (k : ZoneIdx) : ((newEntries s round hands place k).map (·.slot)).Nodup := by
  have hslot : ∀ i e, (if zoneAt s i == k then (hands i).bind fun u => entryFor s round (place i) i u else none) = some e →
      e.slot = i := fun i e he => by
    split at he
    · obtain ⟨u, -, hu⟩ := Option.bind_eq_some_iff.1 he
      exact entryFor_slot hu
    · cases he
  rw [newEntries, List.map_filterMap]
  refine (List.nodup_finRange 60).filterMap fun i j x hi hj => ?_
  obtain ⟨e, he, rfl⟩ := Option.map_eq_some_iff.1 hi
  obtain ⟨e', he', hx⟩ := Option.map_eq_some_iff.1 hj
  rw [← hslot i e he, ← hslot j e' he', hx]

theorem handTargets_queues_get (round : Nat) (hands : SlotIdx → Option Nat) (place : SlotIdx → Nat) (s : State)
    (k : ZoneIdx) :
    (handTargets round hands place s).motion.queues.get k =
      sortQueue ((s.motion.queues.get k).filter (fun e => (hands e.slot).isNone) ++ newEntries s round hands place k) :=
  Table.get_tabulate _ k

theorem sortQueue_map_nodup {q : List QueueEntry} (h : (q.map (·.slot)).Nodup) : ((sortQueue q).map (·.slot)).Nodup :=
  ((sortQueue_perm q).map _).nodup_iff.2 h

theorem MotionLawful.handTargets {s : State} (h : MotionLawful s) (round : Nat) {hands : SlotIdx → Option Nat}
    (place : SlotIdx → Nat) (hhands : ∀ i u, hands i = some u → Handable s i u) :
    MotionLawful (handTargets round hands place s) := by
  have hmono : ∀ i, mayQueue s i = true → mayQueue (Machine.handTargets round hands place s) i = true := fun i =>
    mayQueue_mono id (by rw [valveOf_handTargets]; exact id) id
  have hnew : ∀ k, ∀ e ∈ newEntries s round hands place k, mayQueue s e.slot = true := fun k e he => by
    obtain ⟨-, u, hu, hentry⟩ := mem_newEntries he
    rcases hhands _ u hu with hmay | ⟨hlife, rfl⟩
    · exact hmay
    · rw [entryFor, ((h.valves e.slot).closed hlife).2] at hentry
      cases hentry
  refine ⟨fun k => ?_, fun i => ?_⟩
  · rw [handTargets_queues_get]
    refine ⟨fun e he => ?_, sortQueue_map_nodup ?_, sortQueue_pairwise _, fun e he => ?_⟩
    · rw [mem_sortQueue, List.mem_append, List.mem_filter] at he
      rcases he with ⟨he, -⟩ | he
      exacts [(h.queues k).zone e he, (mem_newEntries he).1]
    · rw [List.map_append]
      refine List.nodup_append.2
        ⟨(h.queues k).distinct.sublist (List.filter_sublist.map _), newEntries_nodup s round hands place k, ?_⟩
      rintro _ hi _ hj rfl
      obtain ⟨a, ha, rfl⟩ := List.mem_map.1 hi
      obtain ⟨b, hb, hab⟩ := List.mem_map.1 hj
      obtain ⟨-, u, hu, -⟩ := mem_newEntries hb
      have hnone := (List.mem_filter.1 ha).2
      rw [hab] at hu
      rw [hu] at hnone
      cases hnone
    · rw [mem_sortQueue, List.mem_append, List.mem_filter] at he
      refine hmono _ ?_
      rcases he with ⟨he, -⟩ | he
      exacts [(h.queues k).may e he, hnew k e he]
  · rw [valveOf_handTargets]
    refine ⟨fun hlife => ⟨?_, ((h.valves i).closed hlife).2⟩, (h.valves i).resting⟩
    cases hu : hands i with
    | none => exact ((h.valves i).closed hlife).1
    | some u =>
      rcases hhands i u hu with hmay | ⟨-, hzero⟩
      · exact absurd ((mayQueue_iff s i).1 hmay).1 hlife
      · exact hzero

theorem standing_of_fixed {s : State} {i : SlotIdx} (hservice : inService s i = true) (h : standsFixed s i = true) :
    standing s i = some .fixed := by
  rw [inService] at hservice
  rw [standing]
  cases hlife : lifecycleOf s i with
  | active | retiring => simp [h]
  | vacant | retired => rw [hlife] at hservice; cases hservice

/-- A slot handed a target is in service, and does not stand FIXED. -/
theorem handed_standing {s : State} {i : SlotIdx} {u : Nat} (h : (allocate s).handed i = some u) :
    inService s i = true ∧ standsFixed s i = false ∧ (standing s i = some .ranked ∨ u = 0) := by
  obtain ⟨e, he, hu⟩ := Option.bind_eq_some_iff.1 h
  rw [allocate_entry, allocEntry] at he
  have hstanding : ∃ x, standing s i = some x ∧ x ≠ .fixed ∧ x ≠ .absent ∧ (x = .ranked ∨ u = 0) := by
    split at he
    case h_1 => cases he
    case h_2 | h_3 => rw [← Option.some.inj he] at hu; cases hu
    case h_4 r hr => exact ⟨_, hr, nofun, nofun, .inr (by rw [← Option.some.inj he] at hu; exact (Option.some.inj hu).symm)⟩
    case h_5 hr => exact ⟨_, hr, nofun, nofun, .inl rfl⟩
  obtain ⟨x, hx, hnotFixed, hnotAbsent, hzero⟩ := hstanding
  have hservice : inService s i = true := by
    rw [standing] at hx
    rw [inService]
    cases hlife : lifecycleOf s i with
    | active | retiring => rfl
    | vacant => rw [hlife] at hx; cases hx
    | retired => rw [hlife] at hx; exact absurd (Option.some.inj hx).symm hnotAbsent
  refine ⟨hservice, Bool.eq_false_iff.2 fun hfixed => ?_, hzero.imp (fun hr => by rw [← hr]; exact hx) id⟩
  rw [standing_of_fixed hservice hfixed] at hx
  exact hnotFixed (Option.some.inj hx).symm

theorem standing_ranked_active {s : State} {i : SlotIdx} (h : standing s i = some .ranked) :
    lifecycleOf s i = .active := by
  rw [standing] at h
  cases hlife : lifecycleOf s i with
  | active => rfl
  | vacant => rw [hlife] at h; cases h
  | retired => rw [hlife] at h; cases h
  | retiring =>
    simp only [hlife, closedReason] at h
    split at h <;> cases h

theorem handable_handed {s : State} {i : SlotIdx} {u : Nat} (h : (allocate s).handed i = some u) : Handable s i u := by
  obtain ⟨hservice, hfree, hzero⟩ := handed_standing h
  simp only [standsFixed, Bool.or_eq_false_iff] at hfree
  by_cases hlife : lifecycleOf s i = .active
  · exact .inl ((mayQueue_iff s i).2 ⟨hlife, hfree.1.1, hfree.2⟩)
  · exact .inr ⟨hlife, hzero.resolve_left fun hr => hlife (standing_ranked_active hr)⟩

theorem MotionLawful.computeRound {s : State} (h : MotionLawful s) : MotionLawful (computeRound s) := by
  rw [Machine.computeRound]
  refine MotionLawful.of_proc ?_ (raiseIf_plan _ _ _) (raiseIf_motion _ _ _) (raiseIf_proc _ _ _)
  refine MotionLawful.of_proc ?_ (raise_plan _ _) (raise_motion _ _) (raise_proc _ _)
  refine MotionLawful.handTargets ?_ _ _ fun i u hu => ?_
  · exact h.of_proc rfl rfl rfl
  · exact handable_handed (s := s) hu

/-! ## The copy of a plan (R11 to R13, R79) -/

theorem mem_allEntries {s : State} {e : QueueEntry} : e ∈ allEntries s ↔ ∃ k, e ∈ s.motion.queues.get k := by
  simp [allEntries, allZones]

theorem MotionLawful.allEntries_nodup {s : State} (h : MotionLawful s) : ((allEntries s).map (·.slot)).Nodup := by
  rw [allEntries, List.map_flatMap, List.nodup_flatMap]
  refine ⟨fun k _ => (h.queues k).distinct, ?_⟩
  refine (List.nodup_finRange 10).imp fun {j k} hjk => ?_
  intro i hi hi'
  obtain ⟨a, ha, rfl⟩ := List.mem_map.1 hi
  obtain ⟨b, hb, hab⟩ := List.mem_map.1 hi'
  refine hjk ?_
  rw [← (h.queues j).zone a ha, ← (h.queues k).zone b hb, hab]

theorem MotionLawful.copyPlan {s : State} (h : MotionLawful s) : MotionLawful (copyPlan s) := by
  refine ⟨fun k => ?_, h.valves⟩
  rw [Machine.copyPlan, migrateQueues_get]
  refine ⟨fun e he => ?_, sortQueue_map_nodup ?_, sortQueue_pairwise _, fun e he => ?_⟩
  · rw [mem_sortQueue, List.mem_filter] at he
    exact beq_iff_eq.1 he.2
  · exact h.allEntries_nodup.sublist (List.filter_sublist.map _)
  · rw [mem_sortQueue, List.mem_filter] at he
    obtain ⟨j, hj⟩ := mem_allEntries.1 he.1
    exact (h.queues j).may e hj

/-! ## Valves that become STUCK, and the procedure -/

/-- The purge slot of a state is that of another, or none. -/
def PurgeOf (s t : State) : Prop := t.proc.purgeSlot = s.proc.purgeSlot ∨ t.proc.purgeSlot = none

theorem PurgeOf.isPurgeSlot {s t : State} (h : PurgeOf s t) (i : SlotIdx) :
    isPurgeSlot t i = true → isPurgeSlot s i = true := by
  rw [isPurgeSlot_iff, isPurgeSlot_iff]
  rcases h with h | h <;> rw [h]
  · exact id
  · exact nofun

theorem purgeOf_finishIfEmpty (s : State) : PurgeOf s (finishIfEmpty s) := by
  rcases finishIfEmpty_cases s with h | h <;> rw [h]
  exacts [.inl rfl, .inr rfl]

theorem purgeOf_enterMeasuring (s : State) : PurgeOf s (enterMeasuring s) := by
  rw [enterMeasuring]; split
  exacts [.inr rfl, .inl rfl]

theorem purgeOf_examineSettling (s : State) : PurgeOf s (examineSettling s) := by
  rw [examineSettling]; split
  · exact .inr rfl
  · split
    exacts [purgeOf_enterMeasuring s, .inl rfl]

theorem purgeOf_sealSlot (i : SlotIdx) (s : State) : PurgeOf s (sealSlot i s) := by
  rw [sealSlot]; split
  exacts [purgeOf_examineSettling (setProc _ s), .inl rfl]

theorem purgeOf_dropStuck (i : SlotIdx) (s : State) : PurgeOf s (dropStuck i s) := by
  rw [dropStuck]; split
  exacts [purgeOf_examineSettling (setProc _ s), .inl rfl]

theorem purgeOf_dropSilent (i : SlotIdx) (s : State) : PurgeOf s (dropSilent i s) := by
  simp only [dropSilent]; split
  exacts [purgeOf_finishIfEmpty (setProc _ s), .inl rfl]

theorem purgeOf_missReply (a : HeadAddr) (s : State) : PurgeOf s (missReply a s) := by
  simp only [missReply]; split
  · exact .inl (by rw [raiseIf_proc])
  · split
    · exact .inl rfl
    · split
      exacts [purgeOf_dropSilent _ (raise .headSilent (setHead _ _ s)), .inl rfl]

theorem MotionLawful.sealSlot {s : State} (h : MotionLawful s) (i : SlotIdx) : MotionLawful (sealSlot i s) :=
  h.of_plan (sealSlot_plan s i) (sealSlot_motion s i) (purgeOf_sealSlot i s).isPurgeSlot

theorem MotionLawful.stickValve {s : State} (h : MotionLawful s) {i : SlotIdx} (hi : inService s i = true) :
    MotionLawful (stickValve i s) := by
  rw [Machine.stickValve]; split
  · exact h
  · refine MotionLawful.of_plan ?_ (dropStuck_plan _ i) (dropStuck_motion _ i) (purgeOf_dropStuck i _).isPurgeSlot
    refine h.of_sublist rfl (fun k => ?_) (fun k e he => ?_) fun j => ?_
    · rw [raise_motion, removeEntries_queues_get]; exact List.filter_sublist
    · have hne : e.slot ≠ i := by
        rw [raise_motion, removeEntries_queues_get, List.mem_filter] at he
        simpa using he.2
      have hvalve : valveOf (raise .valveFault
          (Machine.removeEntries (fun j => j == i) (Machine.setValve i { valveOf s i with state := .stuck } s))) e.slot =
            valveOf s e.slot := (valveOf_setValve i _ s e.slot).trans (if_neg hne)
      exact mayQueue_mono id (by rw [hvalve]; exact id) id
    · show (valveOf (Machine.setValve i { valveOf s i with state := .stuck } s) j).LawfulIn (lifecycleOf s j)
      rw [valveOf_setValve]; split
      next hj => rw [hj]; exact (h.valves i).withState .stuck (.inl hi)
      · exact h.valves j

theorem MotionLawful.stickAndIssue {s : State} (h : MotionLawful s) {i : SlotIdx} (hi : inService s i = true) :
    MotionLawful (stickAndIssue i s) :=
  kept_stickAndIssue (fun k h => h.issueZone k) i (h.stickValve hi) h

/-- A valve that is MOVING or STUCK is in service. -/
theorem MotionLawful.inService {s : State} (h : MotionLawful s) {i : SlotIdx} (hi : (valveOf s i).state ≠ .atRest) :
    inService s i = true := by
  rw [← Bool.not_eq_false]
  exact fun hout => hi ((h.valves i).resting hout)

theorem moveExpired_state {s : State} {i : SlotIdx} (h : moveExpired s i = true) : (valveOf s i).state ≠ .atRest := by
  intro hrest
  rw [moveExpired, hrest] at h
  cases h

theorem MotionLawful.foldl_stickValve {s : State} (h : MotionLawful s) (is : List SlotIdx)
    (his : ∀ i ∈ is, Machine.inService s i = true) : MotionLawful (is.foldl (fun t i => Machine.stickValve i t) s) := by
  induction is generalizing s with
  | nil => exact h
  | cons i is ih =>
    refine ih (h.stickValve (his i (List.mem_cons_self ..))) fun j hj => ?_
    rw [inService_congr (s := s) (lifecycleOf_congr (by rw [stickValve_plan]) j)]
    exact his j (List.mem_cons_of_mem _ hj)

theorem MotionLawful.completeAdoption {s : State} (hadopt : s.plan.adoption = .adopting) (h : MotionLawful s) :
    MotionLawful (completeAdoption s) := by
  rw [completeAdoption_of_adopting hadopt]
  refine h.copyPlan.foldl_stickValve _ fun i hi => ?_
  exact h.copyPlan.inService (moveExpired_state (List.mem_filter.1 hi).2)

theorem MotionLawful.settle {s : State} (h : MotionLawful s) : MotionLawful (settle s) := by
  rw [Machine.settle]
  refine MotionLawful.issueAll ?_
  refine MotionLawful.of_plan ?_ (finishIfEmpty_plan _) (finishIfEmpty_motion _) (purgeOf_finishIfEmpty _).isPurgeSlot
  refine MotionLawful.of_plan (s := Machine.urgentClose (inTestSet (setProc { s.proc with state := .settling, gatherExpiry := none } s)) (setProc { s.proc with state := .settling, gatherExpiry := none } s)) ?_ rfl rfl fun _ hi => hi
  refine MotionLawful.urgentClose ?_ _
  exact h.of_plan rfl rfl fun _ hi => hi

/-! ## Every step -/

/-- A slot whose valve and lifecycle are written together, none of its entries queued. -/
theorem MotionLawful.setSlot {s t : State} (h : MotionLawful s) (i : SlotIdx) (hactive : t.plan.active = s.plan.active)
    (hqueues : ∀ k, (t.motion.queues.get k).Sublist (s.motion.queues.get k))
    (hout : ∀ k, ∀ e ∈ t.motion.queues.get k, e.slot ≠ i) (hproc : t.proc = s.proc)
    (hlife : ∀ j, j ≠ i → lifecycleOf t j = lifecycleOf s j) (hvalve : ∀ j, j ≠ i → valveOf t j = valveOf s j)
    (hi : (valveOf t i).LawfulIn (lifecycleOf t i)) : MotionLawful t := by
  refine h.of_sublist hactive hqueues (fun k e he => ?_) fun j => ?_
  · have hne := hout k e he
    refine mayQueue_mono (fun ha => (hlife _ hne).trans ha) (by rw [hvalve _ hne]; exact id) fun hp => ?_
    rwa [isPurgeSlot, hproc] at hp
  · by_cases hj : j = i
    · exact hj ▸ hi
    · rw [hvalve j hj, hlife j hj]; exact h.valves j

/-- A slot that is not ACTIVE has no entry. -/
theorem MotionLawful.not_queued {s : State} (h : MotionLawful s) {i : SlotIdx} (hlife : lifecycleOf s i ≠ .active) :
    ∀ k, ∀ e ∈ s.motion.queues.get k, e.slot ≠ i := by
  rintro k e he rfl
  exact hlife ((mayQueue_iff s e.slot).1 ((h.queues k).may e he)).1

/-- A slot that is not ACTIVE at rest at 0 in any lifecycle. -/
theorem MotionLawful.rest {s t : State} (h : MotionLawful s) {i : SlotIdx} {r : Roster}
    (hlife : lifecycleOf s i ≠ .active) (hplan : t.plan = { s.plan with roster := s.plan.roster.set i r })
    (hmotion : t.motion = (Machine.setValve i restedValve s).motion) (hproc : t.proc = s.proc) : MotionLawful t := by
  have hvalve : ∀ j, valveOf t j = if j = i then restedValve else valveOf s j := fun j => by
    rw [valveOf, hmotion]; exact valveOf_setValve i restedValve s j
  have hqueues : ∀ k, t.motion.queues.get k = s.motion.queues.get k := fun k => by rw [hmotion]; rfl
  refine h.setSlot i (by rw [hplan]) (fun k => by rw [hqueues]) (fun k => ?_) hproc (fun j hj => ?_) (fun j hj => ?_) ?_
  · rw [hqueues]; exact h.not_queued hlife k
  · rw [lifecycleOf, hplan, Table.get_set, if_neg hj]; rfl
  · rw [hvalve, if_neg hj]
  · rw [hvalve, if_pos rfl]; exact Valve.lawfulIn_rested _

theorem MotionLawful.retire {s : State} (h : MotionLawful s) {i : SlotIdx} {r : Roster} :
    MotionLawful (Machine.closeSlot i (setRoster i r s)) := by
  refine MotionLawful.issueZone ?_ _
  refine h.setSlot i rfl (fun k => ?_) (fun k e he => ?_) rfl (fun j hj => ?_) (fun j hj => ?_) ?_
  · rw [urgentClose_queues_get]; exact List.filter_sublist
  · rw [urgentClose_queues_get, List.mem_filter] at he
    simpa using he.2
  · exact (lifecycleOf_setRoster i r s j).trans (if_neg hj)
  · rw [valveOf_urgentClose, if_neg (by simpa using hj)]; rfl
  · rw [valveOf_urgentClose, if_pos (beq_self_eq_true i)]; exact Valve.lawfulIn_urgentClose _ _ _

theorem MotionLawful.startPurge {s : State} (h : MotionLawful s) (i : SlotIdx) (n : Nat) :
    MotionLawful (startPurge i n s) := by
  rw [Machine.startPurge]
  refine MotionLawful.issueZone ?_ _
  refine h.of_sublist rfl (fun k => ?_) (fun k e he => ?_) h.valves
  · rw [removeEntries_queues_get]; exact List.filter_sublist
  · have hne : e.slot ≠ i := by
      rw [removeEntries_queues_get, List.mem_filter] at he
      simpa using he.2
    refine mayQueue_mono id id fun hp => ?_
    exact absurd (Option.some.inj (beq_iff_eq.1 hp)).symm hne

theorem Valve.isStuck_heldAtRest (v : Valve) : v.heldAtRest.isStuck = false := by
  rw [Valve.heldAtRest]; split <;> rfl

/-- A STUCK valve that Clear Valve Fault does not close is of an ACTIVE slot. -/
theorem MotionLawful.active_of_held {s : State} (h : MotionLawful s) {i : SlotIdx}
    (hstuck : (valveOf s i).isStuck = true) (hopen : closesOnClear s i = false) : lifecycleOf s i = .active := by
  have hservice : Machine.inService s i = true := h.inService fun hrest => by
    rw [Valve.isStuck, hrest] at hstuck; cases hstuck
  rw [Machine.inService] at hservice
  cases hlife : lifecycleOf s i with
  | active => rfl
  | retiring => simp [closesOnClear, hlife] at hopen
  | vacant | retired => rw [hlife] at hservice; cases hservice

theorem motionLawful_of_empty {s : State} (hqueues : ∀ k, s.motion.queues.get k = [])
    (hvalves : ∀ i, (valveOf s i).LawfulIn (lifecycleOf s i)) : MotionLawful s :=
  ⟨fun k => by rw [hqueues k]; exact ⟨nofun, List.nodup_nil, List.Pairwise.nil, nofun⟩, hvalves⟩

theorem motionLawful_closeManifold (s : State) : MotionLawful (closeManifold s) := by
  refine motionLawful_of_empty (shut_closeManifold s).2 fun i => ?_
  have hvalve : valveOf (closeManifold s) i = valveOf (urgentClose (fun _ => true) s) i := rfl
  rw [hvalve, valveOf_urgentClose, if_pos rfl]
  exact Valve.lawfulIn_urgentClose _ _ _

theorem motionLawful_enterShutIn (c : ShutCause) (s : State) : MotionLawful (enterShutIn c s) := by
  rw [enterShutIn]
  exact (motionLawful_closeManifold _).of_proc (raise_plan _ _) (raise_motion _ _) (raise_proc _ _)

theorem MotionLawful.decided {l : Link} {s t : State} (h : MotionLawful s) (hd : Decided l s t) : MotionLawful t := by
  cases hd
  case lockSlot i => exact MotionLawful.closeSlot (s := setSlotLock i true s) (h.of_proc rfl rfl rfl) i
  case lockZone k =>
    exact (MotionLawful.urgentClose (s := setZoneLock k true s) (h.of_proc rfl rfl rfl) _).issueZone k
  case shutIn => exact motionLawful_enterShutIn _ _
  case abort => exact h.of_plan rfl rfl (PurgeOf.isPurgeSlot (.inr rfl))
  case commission i _ _ hlife => exact h.rest (by rw [hlife]; nofun) rfl rfl rfl
  case retire => exact h.retire
  case reclaim i hlife => exact h.rest (by rw [hlife]; nofun) rfl rfl rfl
  case manual i m hlife _ =>
    refine h.of_frame rfl rfl (fun j => ?_) fun _ hi => hi
    rw [setMode, lifecycleOf_setRoster]; split
    next hj => rw [hj]; rfl
    · rfl
  case faultClosed i hstuck =>
    refine MotionLawful.closeSlot ?_ i
    exact h.setValve i ((h.valves i).withState .atRest (.inr rfl)) nofun
  case faultHeld i hstuck hopen =>
    refine h.setValve i ?_ fun hs => ?_
    · rw [h.active_of_held hstuck hopen]; exact Valve.lawfulIn_active
    · rw [Valve.isStuck_heldAtRest] at hs; cases hs
  case beginTest | restartTest | joinTest | suspend => exact h.of_plan rfl rfl fun _ hi => hi
  case resume => exact h.settle
  case purge i n _ _ _ => exact h.startPurge i n
  case pendingPlan | adopting => exact h.of_frame rfl rfl (fun _ => rfl) fun _ hi => hi
  all_goals exact h.of_proc (by simp) (by simp) (by simp)

theorem MotionLawful.takePosition {s : State} (h : MotionLawful s) (i : SlotIdx) (p : Nat) :
    MotionLawful (takePosition i p s) := by
  have hset : MotionLawful (Machine.setValve i ((valveOf s i).report p) s) := by
    refine h.setValve i ⟨(h.valves i).closed, fun hout => ?_⟩ fun hs => ?_
    · have hrest := (h.valves i).resting hout
      rw [Valve.report, hrest]
      exact ite_self _
    · rw [Valve.isStuck, Valve.report] at hs
      split at hs
      · cases hs
      · exact hs
  simp only [Machine.takePosition]; split
  exacts [hset.issueZone _, hset]

theorem MotionLawful.keyRelease {s : State} (h : MotionLawful s) : MotionLawful (keyRelease s) := by
  have hlife := lifecycleOf_keyRelease s
  rw [Machine.keyRelease] at hlife ⊢
  refine MotionLawful.closeSlots ?_ _
  refine h.of_frame rfl rfl (fun i => ?_) fun _ hi => hi
  rw [← hlife i]
  exact (lifecycleOf_congr (by rw [closeSlots_plan]) i).symm

theorem MotionLawful.latchLine {s : State} (h : MotionLawful s) (j : LineIdx) : MotionLawful (latchLine j s) := by
  rw [Machine.latchLine]
  refine MotionLawful.of_proc (MotionLawful.closeSlots ?_ _) (raise_plan _ _) (raise_motion _ _) (raise_proc _ _)
  exact h.of_proc rfl rfl rfl

theorem kept_motionLawful : Kept MotionLawful where
  queue _ h := h.of_proc rfl rfl rfl
  traffic _ _ _ _ h := h.of_proc rfl rfl rfl
  owner := kept_owner MotionLawful.decided
  reset {s} _ :=
    MotionLawful.of_proc (s := closeManifold (loadedPart (loadImage s.store.stored) s)) (motionLawful_closeManifold _)
      rfl rfl rfl
  clearPoll h := h.of_proc rfl rfl rfl
  sendNext {s} h := h.of_proc (sendNext_plan s) (sendNext_motion s) (sendNext_proc s)
  manifoldReply {s} r h :=
    h.of_proc (takeManifoldReply_plan s r) (takeManifoldReply_motion s r) (takeManifoldReply_proc s r)
  slotReply :=
    kept_slotReply (fun i r _ h => h.of_frame rfl rfl (lifecycleOf_replyRecorded i r _) fun _ hi => hi)
      (fun i p h => h.takePosition i p) (fun i h => h.sealSlot i) (fun i hi h => h.stickAndIssue hi)
      fun i hlife h => h.rest (i := i) (by rw [hlife]; nofun) rfl rfl rfl
  missReply {s} a h := h.of_plan (missReply_plan s a) (missReply_motion s a) (purgeOf_missReply a s).isPurgeSlot
  roundEvent :=
    kept_roundEvent (fun k h => h.issueZone k) (fun hadopt h => h.completeAdoption hadopt)
      (fun _ h => h.computeRound) fun h => h.of_proc rfl rfl rfl
  takeOff _ _ h := h.of_proc rfl rfl rfl
  nextExpiry _ _ h := h.of_proc rfl rfl rfl
  restartTimer h := h.of_proc rfl rfl rfl
  release h := h.of_proc rfl rfl rfl
  clearMissed h := h.of_proc rfl rfl rfl
  issueAll h := h.issueAll
  takeGasBand _ h := h.of_proc rfl rfl rfl
  enterShutIn {s} c _ := motionLawful_enterShutIn c s
  travelTimeout i hdue h := h.stickAndIssue (h.inService (moveExpired_state hdue))
  spendWatch h := h.of_proc rfl rfl rfl
  raiseAlarm _ h := h.of_proc rfl rfl rfl
  keySwitch _ h := h.of_proc rfl rfl rfl
  followKey h := h.of_proc rfl rfl rfl
  keyRelease h := h.keyRelease
  setContact _ _ h := h.of_proc rfl rfl rfl
  followContact _ _ h := h.of_proc rfl rfl rfl
  latch {s} j h := MotionLawful.latchLine (s := followContact j s) (h.of_proc rfl rfl rfl) j
  tick h := h.of_proc rfl rfl rfl
  takeRollover c _ h :=
    MotionLawful.of_proc h (rollWindows_plan _ c) (rollWindows_motion _ c) (rollWindows_proc _ c)
  settle _ h := h.settle
  completeTest _ h := h.of_plan rfl rfl (PurgeOf.isPurgeSlot (.inr rfl))
  endPurge _ h := h.of_plan rfl rfl (PurgeOf.isPurgeSlot (.inr rfl))
  endWrite {s} crc bytes h :=
    h.of_proc (endWrite_plan s crc bytes) (endWrite_motion s crc bytes) (endWrite_proc s crc bytes)

/-- Settles O57: the law in its parts, kept by the traffic, the owners and the events. -/
theorem stepKeepsMotion : Obligations.StepKeepsMotion := fun s t h ht =>
  (motionLaw_iff t).2 (kept_motionLawful.step ((motionLaw_iff s).1 h) ht)

end Sys2Proof.Machine
end

section
/-! PROOFS. The queue of commands, the bytes and frames at a link, and the sending of a reply: 08_master_links.md
before a request is decided. -/

namespace Sys2Proof.Machine

/-! ## The queue and the step -/

/-- Settles O1: the step, read off its two cases. -/
theorem stepRunsFrontCommand : Obligations.StepRunsFrontCommand :=
  ⟨fun c rest s h => by rw [step, h], fun s h => by rw [step, h]⟩

/-- Every command has a next state: a request by `exec_requestInstr`, an event in each of its cases. -/
theorem exec_next (c : Instr) (s : State) : ∃ t, exec c s = .next t := by
  cases c
  case roundTimerExpiry => simp only [exec, execRoundTimerExpiry]; split <;> [skip; split] <;> exact ⟨_, rfl⟩
  case gasBandRequest => simp only [exec, execGasBandRequest]; split <;> [skip; split] <;> exact ⟨_, rfl⟩
  case travelTimeout i => simp only [exec, execTravelTimeout]; split <;> exact ⟨_, rfl⟩
  case manifoldWatchExpiry => simp only [exec, execManifoldWatchExpiry]; split <;> [split; skip] <;> exact ⟨_, rfl⟩
  case keyDebounceExpiry => simp only [exec, execKeyDebounceExpiry]; split <;> [skip; split] <;> exact ⟨_, rfl⟩
  case tripDebounceExpiry j => simp only [exec, execTripDebounceExpiry]; split <;> [skip; split] <;> exact ⟨_, rfl⟩
  case minuteRollover => simp only [exec, execMinuteRollover]; split <;> exact ⟨_, rfl⟩
  case gatheringWindowExpiry => simp only [exec, execGatheringWindowExpiry]; split <;> exact ⟨_, rfl⟩
  case measuringExpiry => simp only [exec, execMeasuringExpiry]; split <;> exact ⟨_, rfl⟩
  case purgeExpiry => simp only [exec, execPurgeExpiry]; split <;> exact ⟨_, rfl⟩
  case storeWriteEnd readBack => simp only [exec, execStoreWriteEnd]; split <;> [skip; split] <;> exact ⟨_, rfl⟩
  all_goals exact ⟨_, rfl⟩

/-- A predicate of the waiting commands is kept by whatever leaves them as they were. -/
def Waiting (q : List Instr) (s : State) : Prop := s.pending = q

theorem Waiting.of_eq {q : List Instr} {s t : State} (h : Waiting q s) (heq : t.pending = s.pending) : Waiting q t :=
  heq.trans h

theorem Waiting.decided {q : List Instr} {l : Link} {s t : State} (h : Waiting q s) (hd : Decided l s t) :
    Waiting q t := by
  cases hd
  all_goals exact h.of_eq (by simp [commissioned])

theorem kept_waiting (q : List Instr) : KeptByCommands (Waiting q) where
  traffic _ _ _ _ h := h
  owner := kept_owner Waiting.decided
  reset h := h
  clearPoll h := h
  sendNext {s} h := h.of_eq (sendNext_pending s)
  manifoldReply {s} r h := h.of_eq (takeManifoldReply_pending s r)
  slotReply {s} i r _ h := h.of_eq (takeSlotReply_pending s i r)
  missReply {s} a h := h.of_eq (missReply_pending s a)
  roundEvent {s} h := h.of_eq (roundEvent_pending s)
  takeOff _ _ h := h
  nextExpiry _ _ h := h
  restartTimer h := h
  release h := h
  clearMissed h := h
  issueAll {s} h := h.of_eq (issueAll_pending s)
  takeGasBand _ h := h
  enterShutIn _ h := h
  travelTimeout {s} i _ h := h.of_eq (stickAndIssue_pending s i)
  spendWatch h := h
  raiseAlarm _ h := h
  keySwitch _ h := h
  followKey h := h
  keyRelease {s} h := h.of_eq (keyRelease_pending s)
  setContact _ _ h := h
  followContact _ _ h := h
  latch {s} j h := h.of_eq (s := s) (latchLine_pending (followContact j s) j)
  tick h := h
  takeRollover {s} c _ h := h.of_eq (s := s) (rollWindows_pending _ c)
  settle {s} _ h := h.of_eq (settle_pending s)
  completeTest {s} _ h := h.of_eq (completeTest_pending s)
  endPurge {s} _ h := h.of_eq (endPurge_pending s)
  endWrite {s} crc bytes h := h.of_eq (endWrite_pending s crc bytes)

/-- Settles O2: every command has a next state, and its queue is kept by the traffic, the owners and the events. -/
theorem everyCommandCompletes : Obligations.EveryCommandCompletes := fun c s => by
  obtain ⟨t, ht⟩ := exec_next c s
  exact ⟨t, ht, (kept_waiting s.pending).exec c rfl ht⟩

/-! ## A receiver (R145) -/

/-- The state with a link's receiver replaced. -/
def receiving (l : Link) (r : Receiver) (s : State) : State := setLink l { s.links.get l with receiver := r } s

@[simp] theorem receiving_get (l : Link) (r : Receiver) (s : State) :
    (receiving l r s).links.get l = { s.links.get l with receiver := r } := by simp [receiving, setLink]

@[simp] theorem receiving_receiving (l : Link) (r r' : Receiver) (s : State) :
    receiving l r' (receiving l r s) = receiving l r' s := by simp [receiving, setLink]

section Receiver

variable {l : Link} {s : State} {b : Byte}

theorem receiveByte_of_sync (h : (s.links.get l).receiver = .hunting) :
    receiveByte l linkSync s = receiving l (.assembling (s.links.get l).request.isSome []) s := by
  rw [receiveByte, h]
  rfl

theorem receiveByte_of_noise (h : (s.links.get l).receiver = .hunting) (hb : b ≠ linkSync) :
    receiveByte l b s = s := by
  rw [receiveByte, h]
  exact if_neg hb

theorem receiveByte_of_assembling {late : Bool} {bytes : List Byte}
    (h : (s.links.get l).receiver = .assembling late bytes) : receiveByte l b s = assemble l late (bytes ++ [b]) s := by
  rw [receiveByte, h]

theorem assemble_of_badLength {late : Bool} {len : Byte} {rest : List Byte} (h : len.toNat = 0 ∨ 250 < len.toNat) :
    assemble l late (len :: rest) s = receiving l .hunting s := by
  rw [assemble, if_pos (by simpa using h)]
  rfl

theorem assemble_of_partial {late : Bool} {len : Byte} {rest : List Byte} (hlow : 1 ≤ len.toNat) (hhigh : len.toNat ≤ 250)
    (h : rest.length < len.toNat + 2) :
    assemble l late (len :: rest) s = receiving l (.assembling late (len :: rest)) s := by
  rw [assemble, if_neg (by simp only [Bool.or_eq_true, decide_eq_true_eq]; omega),
    if_pos (by rw [List.length_cons]; omega)]
  rfl

theorem assemble_of_complete {late : Bool} {len : Byte} {rest : List Byte} (hlow : 1 ≤ len.toNat)
    (hhigh : len.toNat ≤ 250) (h : rest.length = len.toNat + 2) :
    assemble l late (len :: rest) s =
      if late then receiving l .hunting s
      else checkFrame l (len :: rest.take len.toNat) (leNat (rest.drop len.toNat)) s := by
  have hcrc : numAt (len :: rest) (len.toNat + 1) 2 = leNat (rest.drop len.toNat) := by
    rw [numAt, List.drop_succ_cons, List.take_of_length_le (by rw [List.length_drop]; omega)]
  rw [assemble, if_neg (by simp only [Bool.or_eq_true, decide_eq_true_eq]; omega),
    if_neg (by rw [List.length_cons]; omega), hcrc]
  rfl

end Receiver

/-- Settles O5: each byte by the receiver's state, then by the length byte and the bytes that it still awaits. -/
theorem receiverTakesBytes : Obligations.ReceiverTakesBytes := by
  refine fun l s b => ⟨fun h => ⟨?sync, ?noise⟩, fun late h => ⟨?goodLength, ?badLength⟩, fun late len rest h hlow hhigh =>
    ⟨?partial_, ?complete⟩⟩
  case sync => rintro rfl; exact congrArg _ (receiveByte_of_sync h)
  case noise => exact fun hb => congrArg _ (receiveByte_of_noise h hb)
  case goodLength =>
    exact fun hlow hhigh => congrArg _
      ((receiveByte_of_assembling h).trans (assemble_of_partial hlow hhigh (Nat.succ_pos _)))
  case badLength => exact fun hbad => congrArg _ ((receiveByte_of_assembling h).trans (assemble_of_badLength hbad))
  case partial_ =>
    exact fun hlen => congrArg _
      ((receiveByte_of_assembling h).trans (assemble_of_partial hlow hhigh (by simpa using hlen)))
  case complete =>
    intro hlen
    have hbody : (rest ++ [b]).take len.toNat = rest.take len.toNat := List.take_append_of_le_length (by omega)
    refine congrArg _ ((receiveByte_of_assembling h).trans ?_)
    rw [List.cons_append, assemble_of_complete hlow hhigh (by simpa using hlen), hbody]
    rfl

/-! ## Frames that are discarded (R145 to R148) -/

section Frames

variable {l : Link} {s : State}

theorem checkFrame_of_bad_crc {body : List Byte} {crc : Nat} (h : crc ≠ (crc16 body).toNat) :
    checkFrame l body crc s = receiving l .hunting s := by
  unfold checkFrame
  split
  · exact if_neg (by simpa using h)
  · rfl

theorem receiveGap_of_assembling {late : Bool} {bytes : List Byte}
    (h : (s.links.get l).receiver = .assembling late bytes) : receiveGap l s = receiving l .hunting s := by
  rw [receiveGap, h]
  rfl

theorem receiveGap_of_hunting (h : (s.links.get l).receiver = .hunting) : receiveGap l s = s := by
  rw [receiveGap, h]

theorem busy_of_free (h : LinkFree l s) : busy l s = false := by rw [busy, h]; rfl

theorem busy_of_request {r : Reply} (h : (s.links.get l).request = some r) : busy l s = true := by rw [busy, h]; rfl

theorem takeRequest_of_busy {c : Command} {p : Payload} {own : State → State × Answer} (h : busy l s = true) :
    takeRequest l c p own s = receiving l .hunting s := by
  rw [takeRequest, if_pos h]
  rfl

theorem takeCode_of_busy {code : Byte} {p : Payload} (h : busy l s = true) :
    takeCode l code p s = receiving l .hunting s := by
  rw [takeCode]
  split
  · rw [takeUnknown, if_pos h]; rfl
  · exact takeRequest_of_busy h

end Frames

/-- Settles O6: a frame's fate by its CRC, its length byte and the gap, then by the request in progress. -/
theorem framesDiscarded : Obligations.FramesDiscarded := by
  refine ⟨fun l s => ⟨?crc, ?length, ?gap, ?huntingGap, fun _ _ => rfl⟩, fun l s r h => ⟨?request, ?code, ?frame⟩⟩
  case crc =>
    intro body crc hfree hcrc
    refine congrArg _ ((?_ : wholeFrame l body crc s = _))
    rw [wholeFrame, busy_of_free hfree, if_neg Bool.false_ne_true]
    exact checkFrame_of_bad_crc fun heq => hcrc (BitVec.eq_of_toNat_eq heq)
  case length =>
    exact fun late len h hbad => congrArg _ ((receiveByte_of_assembling h).trans (assemble_of_badLength hbad))
  case gap => exact fun late bytes h => congrArg _ (receiveGap_of_assembling h)
  case huntingGap => exact fun h => congrArg _ (receiveGap_of_hunting h)
  case request => exact fun c p => exec_of_busy s l p c r h
  case code => exact fun code p => congrArg _ (takeCode_of_busy (busy_of_request h))
  case frame => exact fun body crc => congrArg _ (if_pos (busy_of_request h))

/-! ## A request frame received byte by byte (R145, R147) -/

theorem byteOf_toNat_of_lt {n : Nat} (h : n < 256) : (byteOf n).toNat = n := by
  rw [byteOf, BitVec.toNat_ofNat]
  exact Nat.mod_eq_of_lt h

theorem length_leBytes (k n : Nat) : (leBytes k n).length = k := by
  induction k generalizing n with
  | zero => rfl
  | succ k ih => rw [leBytes, List.length_cons, ih]

theorem leNat_leBytes (k : Nat) {n : Nat} (h : n < 256 ^ k) : leNat (leBytes k n) = n := by
  induction k generalizing n with
  | zero => rw [leBytes, leNat]; simp only [pow_zero] at h; omega
  | succ k ih =>
    have hdiv : n / 256 < 256 ^ k := by rw [pow_succ] at h; omega
    have hbyte : (byteOf n).toNat = n % 256 := by rw [byteOf, BitVec.toNat_ofNat]
    rw [leBytes, leNat, hbyte, ih hdiv]
    omega

theorem commandOf_codeOf (c : Command) : commandOf (codeOf c) = some c := by cases c <;> decide

/-- What is made of a request does not depend on where its receiver stood. -/
theorem takeRequest_receiving (l : Link) (r : Receiver) (c : Command) (p : Payload) (own : State → State × Answer)
    (s : State) : takeRequest l c p own (receiving l r s) = takeRequest l c p own s := by
  have hbusy : busy l (receiving l r s) = busy l s := by rw [busy, busy, receiving_get]
  have hhunt : huntAgain l (receiving l r s) = huntAgain l s := receiving_receiving l r .hunting s
  rw [takeRequest, takeRequest, hbusy, hhunt]

/-- The bytes still awaited, received one after another, complete the frame and have it checked. -/
theorem bytesTaken_rest {l : Link} {len : Byte} {bytes : List Byte} (s : State) (hlow : 1 ≤ len.toNat)
    (hhigh : len.toNat ≤ 250) (hlength : bytes.length = len.toNat + 2) {before after : List Byte}
    (hsplit : before ++ after = bytes) (hafter : after ≠ []) :
    ∃ r, bytesTaken l after (receiving l (.assembling false (len :: before)) s) =
      some (checkFrame l (len :: bytes.take len.toNat) (leNat (bytes.drop len.toNat)) (receiving l r s)) := by
  induction after generalizing before with
  | nil => exact absurd rfl hafter
  | cons b after ih =>
    have hreceive : exec (.linkByteReceived l b) (receiving l (.assembling false (len :: before)) s) =
        .next (assemble l false (len :: (before ++ [b])) (receiving l (.assembling false (len :: before)) s)) :=
      congrArg _ (receiveByte_of_assembling (congrArg LinkState.receiver (receiving_get l _ s)))
    rw [bytesTaken, hreceive]
    cases after with
    | nil =>
      refine ⟨.assembling false (len :: before), ?_⟩
      rw [hsplit, assemble_of_complete hlow hhigh hlength, if_neg Bool.false_ne_true]
      rfl
    | cons b' after =>
      have hmore := congrArg List.length hsplit
      simp only [List.length_append, List.length_cons] at hmore
      rw [assemble_of_partial hlow hhigh (by simp only [List.length_append, List.length_cons, List.length_nil]; omega),
        receiving_receiving]
      exact ih (by rw [← hsplit, List.append_assoc]; rfl) (List.cons_ne_nil _ _)

/-- Settles O7: the sync byte opens an assembly, the length byte sizes it, and the frame checked after the last byte
is the request's. -/
theorem bytewiseReceptionIsRequest : Obligations.BytewiseReceptionIsRequest := by
  intro l c p s hfree hhunting hlength
  refine ⟨takeRequest l c p (owner l p c) s, exec_requestInstr s l p c, ?_⟩
  obtain ⟨code, hcode⟩ : ∃ code, code = codeOf c := ⟨_, rfl⟩
  obtain ⟨len, hlen⟩ : ∃ len, len = byteOf (1 + p.length) := ⟨_, rfl⟩
  have hlenNat : len.toNat = 1 + p.length := by rw [hlen]; exact byteOf_toNat_of_lt (by omega)
  obtain ⟨crc, hcrc⟩ : ∃ crc, crc = crc16 (len :: code :: p) := ⟨_, rfl⟩
  have hframe : requestFrame code p = linkSync :: len :: (code :: p ++ leBytes 2 crc.toNat) := by
    rw [requestFrame, linkFrame, frameBody, ← hlen, ← hcrc]; rfl
  have hsync : exec (.linkByteReceived l linkSync) s = .next (receiving l (.assembling false []) s) :=
    congrArg _ ((receiveByte_of_sync hhunting).trans (by rw [hfree]; rfl))
  have hsize : exec (.linkByteReceived l len) (receiving l (.assembling false []) s) =
      .next (receiving l (.assembling false [len]) s) := by
    refine congrArg _ ((receiveByte_of_assembling (congrArg LinkState.receiver (receiving_get l _ s))).trans ?_)
    rw [List.nil_append, assemble_of_partial (by omega) (by omega) (by simp), receiving_receiving]
  obtain ⟨r, hrest⟩ := bytesTaken_rest (l := l) (len := len) (bytes := code :: p ++ leBytes 2 crc.toNat) s (by omega)
    (by omega) (by simp only [List.length_append, List.length_cons, length_leBytes]; omega) (List.nil_append _) (by simp)
  have htake : (code :: p ++ leBytes 2 crc.toNat).take len.toNat = code :: p :=
    List.take_left' (by rw [hlenNat, List.length_cons, Nat.add_comm])
  have hdrop : leNat ((code :: p ++ leBytes 2 crc.toNat).drop len.toNat) = crc.toNat := by
    rw [List.drop_left' (by rw [hlenNat, List.length_cons, Nat.add_comm])]
    exact leNat_leBytes 2 crc.isLt
  rw [← hcode, hframe, bytesTaken, hsync]
  simp only
  rw [bytesTaken, hsize]
  simp only
  rw [hrest, htake, hdrop, checkFrame, hcrc, if_pos (beq_self_eq_true _), takeCode, hcode, commandOf_codeOf]
  exact congrArg some (takeRequest_receiving l r c p (owner l p c) s)

/-! ## The end of a reply (R148) -/

/-- Settles O8: the reply's frame is its body between the sync byte and the CRC. -/
theorem replySentEndsRequest : Obligations.ReplySentEndsRequest := by
  refine fun l s => ⟨fun r h => congrArg Host.Outcome.next ?_,
    fun h => congrArg Host.Outcome.next (?_ : finishReply l s = s)⟩
  · rw [finishReply, h]
    refine congrArg (fun bytes => setLink l { s.links.get l with request := none, sent := bytes } s) ?_
    have hsize : 1 + (r.result.byte :: r.data).length = 2 + r.data.length := by rw [List.length_cons]; omega
    rw [Reply.frame, linkFrame, frameBody, hsize]
    rfl
  · rw [finishReply, h]

/-! ## The reads (R153 to R156) -/

theorem readSlot_of_slot {p : Payload} {i : SlotIdx} (h : slotOf (u8 p 0) = some i) (s : State) :
    readSlot p s = (s, accepted false (slotData s i)) := by rw [readSlot, h]; rfl

theorem readZone_of_zone {p : Payload} {k : ZoneIdx} (h : zoneOfNum (u8 p 0) = some k) (s : State) :
    readZone p s = (s, accepted false (zoneData s k)) := by rw [readZone, h]; rfl

theorem readRoundSummary_of_slot {p : Payload} {i : SlotIdx} (h : slotOf (u8 p 0) = some i) (s : State) :
    readRoundSummary p s = (s, accepted false (summaryData s i)) := by rw [readRoundSummary, h]; rfl

/-- An admitted read that its owner answers from the state as it stands. -/
theorem exec_of_read {l : Link} {c : Command} {p : Payload} {s : State} {data : State → List Byte} (h : Admitted l c p s)
    (hdata : data (discarded l s) = data s) (howner : ∀ t, owner l p c t = (t, accepted false (data t))) :
    exec (requestInstr l p c) s = .next (answered l (codeOf c) .ok (data s) s) :=
  exec_of_owner s (accepted false (data s)) h (by rw [howner, hdata])

/-- Settles O11: each read by its data, none of which reads a receiver. -/
theorem readsAnswerAndChangeNothing : Obligations.ReadsAnswerAndChangeNothing := by
  refine fun l p s => ⟨fun h => ?status, fun i h hi => ?slot, fun k h hk => ?zone, fun i h hi => ?summary,
    fun h => ?limits, fun h => ?results, fun h => ?windows, fun h => ?notices⟩
  case status => exact exec_of_read (c := .readStatus) (data := statusData) h rfl fun _ => rfl
  case slot => exact exec_of_read (c := .readSlot) (data := (slotData · i)) h rfl (readSlot_of_slot hi)
  case zone => exact exec_of_read (c := .readZone) (data := (zoneData · k)) h rfl (readZone_of_zone hk)
  case summary =>
    exact exec_of_read (c := .readRoundSummary) (data := (summaryData · i)) h rfl (readRoundSummary_of_slot hi)
  case limits => exact exec_of_read (c := .readLimits) (data := limitsData) h rfl fun _ => rfl
  case results => exact exec_of_read (c := .readResults) (data := resultsData) h rfl fun _ => rfl
  case windows => exact exec_of_read (c := .readWindows) (data := windowsData) h rfl fun _ => rfl
  case notices =>
    refine exec_of_read (c := .readNotices)
      (data := fun t =>
        leBytes 2 (t.links.get l).notices.toNat ++ leBytes 2 (t.links.get l).mask.toNat ++
          [flagByte (t.links.get l).attention])
      h ?_ fun _ => rfl
    rw [discarded_links_get]

end Sys2Proof.Machine
end

section
/-! PROOFS. The sizes of the read records, and the filling of a round summary page (section 10.5, R168). -/

namespace Sys2Proof.Machine

/-! ## The sizes of layouts -/

/-- Layouts of one size, laid out one after another. -/
theorem length_flatMap_of_size {α : Type} {f : α → List Byte} {size : Nat} (xs : List α)
    (h : ∀ x ∈ xs, (f x).length = size) : (xs.flatMap f).length = size * xs.length := by
  induction xs with
  | nil => rfl
  | cons x xs ih =>
    rw [List.flatMap_cons, List.length_append, h x (List.mem_cons_self ..),
      ih fun y hy => h y (List.mem_cons_of_mem _ hy), List.length_cons, Nat.mul_add, Nat.mul_one, Nat.add_comm]

@[simp] theorem size_leBytes (k n : Nat) : (leBytes k n).length = k := length_leBytes k n

@[simp] theorem size_leOpt (k : Nat) (v : Option Nat) : (leOpt k v).length = k := by
  cases v with
  | none => exact List.length_replicate
  | some n => exact size_leBytes k n

@[simp] theorem size_headBytes (h : Option Head) : (headBytes h).length = 2 := by cases h <;> rfl

@[simp] theorem size_valueAndAge (s : State) (k : Nat) (v : Option Stamped) : (valueAndAge s k v).length = k + 4 := by
  rw [valueAndAge, List.length_append, size_leOpt, size_leOpt]

@[simp] theorem size_clock (c : Clock) : c.bytes.length = 4 := rfl

@[simp] theorem size_limits (l : Limits) : l.bytes.length = 8 := by simp [Limits.bytes]

@[simp] theorem size_zoneRecord (z : ZoneRecord) : z.bytes.length = 4 := rfl

@[simp] theorem size_paramBytes (p : Plan) : p.paramBytes.length = 4 := by simp [Plan.paramBytes]

@[simp] theorem size_windowEntry (e : WindowEntry) : e.bytes.length = 8 := by simp [WindowEntry.bytes]

@[simp] theorem size_roundStatus (s : State) : (roundStatus s).length = 16 := by simp [roundStatus]

@[simp] theorem size_recordStatus (r : Option AllocRecord) : (recordStatus r).length = 16 := by simp [recordStatus]

@[simp] theorem size_manifoldStatus (s : State) : (manifoldStatus s).length = 29 := by simp [manifoldStatus]

theorem size_statusData (s : State) : (statusData s).length = 89 := by
  have hlines : (s.trips.lines.cells.flatMap TripLine.bytes).length = 8 := by
    rw [length_flatMap_of_size (size := 2) _ fun _ _ => rfl, s.trips.lines.size]
  simp [statusData, hlines]

theorem size_limitsData (s : State) : (limitsData s).length = 31 := by simp [limitsData]

@[simp] theorem size_placeBytes (t : Option TestPlace) : (placeBytes t).length = 4 := by
  cases t with
  | none => rfl
  | some t => simp [placeBytes]

@[simp] theorem size_rateBytes (r : Option Int) : (rateBytes r).length = 2 := by
  cases r <;> simp [rateBytes]

@[simp] theorem size_resultBytes (r : Option ResultRecord) : (resultBytes r).length = 10 := by
  cases r <;> simp [resultBytes]

theorem size_resultsData (s : State) : (resultsData s).length = 203 := by
  have hplaces : ((List.range 8).flatMap fun n => placeBytes s.proc.testSet[n]?).length = 32 :=
    length_flatMap_of_size _ fun n _ => size_placeBytes s.proc.testSet[n]?
  have hresults : ((List.range 16).flatMap fun n => resultBytes s.proc.results[n]?).length = 160 :=
    length_flatMap_of_size _ fun n _ => size_resultBytes s.proc.results[n]?
  simp only [resultsData, List.length_append, hplaces, hresults, size_leOpt, List.length_cons, List.length_nil]

theorem size_windowsData (s : State) : (windowsData s).length = 87 := by
  have hwindows : (s.trips.windows.cells.flatMap fun w => w.entry.bytes ++ [byteOf (w.remaining.getD 0)]).length = 72 := by
    rw [length_flatMap_of_size (size := 9) _ fun w _ => by simp, s.trips.windows.size]
  have hceilings : (s.trips.ceilings.cells.flatMap (leOpt 1)).length = 10 := by
    rw [length_flatMap_of_size (size := 1) _ fun v _ => size_leOpt 1 v, s.trips.ceilings.size]
  simp only [windowsData, List.length_append, hwindows, hceilings, size_clock, List.length_cons, List.length_nil]

@[simp] theorem size_queueEntry (e : QueueEntry) : e.bytes.length = 7 := by
  rw [QueueEntry.bytes]
  cases e.kind <;> simp

theorem size_zoneData (s : State) (k : ZoneIdx) :
    (zoneData s k).length = 24 + 7 * min 30 (s.motion.queues.get k).length := by
  have hqueue : (((s.motion.queues.get k).take 30).flatMap QueueEntry.bytes).length =
      7 * min 30 (s.motion.queues.get k).length := by
    rw [length_flatMap_of_size _ fun e _ => size_queueEntry e, List.length_take]
  simp only [zoneData, List.length_append, hqueue, size_paramBytes, size_zoneRecord, size_leOpt,
    List.length_cons, List.length_nil]
  cases s.plan.active.span k <;> simp only [List.length_cons, List.length_nil]

@[simp] theorem size_rosterBytes (s : State) (r : Roster) : (rosterBytes s r).length = 9 := by
  rw [rosterBytes]
  cases r.mode <;> simp

/-- A slot entry has 18 bytes when its tag has at most 12 characters. -/
theorem size_slotEntry {e : SlotEntry} (h : e.tag.length ≤ 12) : e.bytes.length = 18 := by
  simp only [SlotEntry.bytes, tagBytes, List.length_append, List.length_cons, List.length_nil, List.length_replicate,
    size_leOpt]
  omega

@[simp] theorem size_recordBytes (s : State) (r : Option ReadingRecord) : (recordBytes s r).length = 31 := by
  simp [recordBytes]

@[simp] theorem size_valveBytes (s : State) (v : Valve) : (valveBytes s v).length = 8 := by
  rw [valveBytes]
  cases v.state <;> simp

theorem SlotEntry.tag_le {e : SlotEntry} (h : e.inRange = true) : e.tag.length ≤ 12 := by
  simp only [SlotEntry.inRange, tagOk, Bool.and_eq_true, decide_eq_true_eq] at h
  exact h.1.2.1

theorem Plan.tag_le {p : Plan} (h : p.inRange = true) (i : SlotIdx) : (p.entries.get i).tag.length ≤ 12 := by
  obtain ⟨-, -, -, -, hentries⟩ := (Plan.inRange_iff p).1 h
  exact SlotEntry.tag_le (hentries i)

theorem size_slotData {s : State} (h : PlansInRange s) (i : SlotIdx) : (slotData s i).length = 93 := by
  have hactive := size_slotEntry (Plan.tag_le h.1 i)
  have hpending := size_slotEntry (Plan.tag_le h.2.2.1 i)
  simp only [slotData, List.length_append, hactive, hpending, size_rosterBytes, size_headBytes, size_recordBytes,
    size_valveBytes, List.length_cons, List.length_nil]
  cases entryAt s i <;> rfl

/-! ## A page of the round summary (R168) -/

theorem size_allocEntry (i : SlotIdx) (e : AllocEntry) :
    (e.bytes i).length =
      match e.standing with
      | .absent => 2
      | .closed _ => 2
      | .fixed => 5
      | .ranked => 7 := by
  rw [AllocEntry.bytes]
  cases e.standing <;> simp

theorem mem_entriesFrom {r : AllocRecord} {i j : SlotIdx} {e : AllocEntry} :
    (j, e) ∈ entriesFrom r i ↔ i ≤ j ∧ r.entries.get j = some e := by
  rw [entriesFrom, List.mem_filterMap]
  constructor
  · rintro ⟨k, -, hk⟩
    split at hk
    next hle =>
      obtain ⟨x, hx, heq⟩ := Option.map_eq_some_iff.1 hk
      obtain ⟨rfl, rfl⟩ := Prod.mk.inj heq
      exact ⟨hle, hx⟩
    · cases hk
  · rintro ⟨hle, he⟩
    exact ⟨j, List.mem_finRange j, by rw [if_pos hle, he]; rfl⟩

theorem entriesFrom_pairwise (r : AllocRecord) (i : SlotIdx) :
    (entriesFrom r i).Pairwise fun a b => a.1 < b.1 := by
  have hslot : ∀ {j : SlotIdx} {x : SlotIdx × AllocEntry},
      (if i ≤ j then (r.entries.get j).map fun e => (j, e) else none) = some x → x.1 = j := fun {j x} h => by
    split at h
    · obtain ⟨e, -, rfl⟩ := Option.map_eq_some_iff.1 h
      rfl
    · cases h
  rw [entriesFrom, List.pairwise_filterMap]
  refine (List.pairwise_lt_finRange 60).imp fun {a b} hab x hx y hy => ?_
  rw [hslot hx, hslot hy]
  exact hab

/-- The bytes of a page's entries. -/
def pageBytes (es : List (SlotIdx × AllocEntry)) : List Byte := es.flatMap fun x => x.2.bytes x.1

/-- What a page gives and leaves. -/
structure PageFilled (n room : Nat) (es : List (SlotIdx × AllocEntry))
    (page : List (SlotIdx × AllocEntry) × List (SlotIdx × AllocEntry)) : Prop where
  parts : page.1 ++ page.2 = es
  count : page.1.length ≤ n
  bytes : (pageBytes page.1).length ≤ room
  full : ∀ x rest, page.2 = x :: rest →
    page.1.length = n ∨ room < (pageBytes page.1).length + (x.2.bytes x.1).length

theorem pageFilled_fillPage (n room : Nat) (es : List (SlotIdx × AllocEntry)) :
    PageFilled n room es (fillPage n room es) := by
  induction n generalizing room es with
  | zero => exact ⟨rfl, Nat.le_refl 0, Nat.zero_le _, fun _ _ _ => .inl rfl⟩
  | succ n ih =>
    cases es with
    | nil => exact ⟨rfl, Nat.zero_le _, Nat.zero_le _, nofun⟩
    | cons x es =>
      simp only [fillPage]
      split
      next hfits =>
        obtain ⟨hparts, hcount, hbytes, hfull⟩ := ih (room - (x.2.bytes x.1).length) es
        have hsize : ∀ given, (pageBytes (x :: given)).length = (x.2.bytes x.1).length + (pageBytes given).length :=
          fun given => by rw [pageBytes, List.flatMap_cons, List.length_append]; rfl
        refine ⟨congrArg (x :: ·) hparts, Nat.succ_le_succ hcount, ?_, fun y rest hleft => ?_⟩
        · rw [hsize]; omega
        · rw [hsize, List.length_cons]
          rcases hfull y rest hleft with hn | hroom
          · exact .inl (congrArg (· + 1) hn)
          · exact .inr (by omega)
      next hfits =>
        refine ⟨rfl, Nat.zero_le _, Nat.zero_le _, fun y rest hleft => .inr ?_⟩
        obtain ⟨rfl, -⟩ := List.cons.inj hleft
        exact (Nat.not_le.1 hfits).trans_le (Nat.le_add_left _ _)

theorem size_summaryData (s : State) (i : SlotIdx) : (summaryData s i).length ≤ 248 := by
  rw [summaryData]
  split
  · exact (Nat.succ_le_succ (Nat.zero_le _))
  next r _ =>
    have hpage : ((fillPage 40 215 (entriesFrom r i)).1.flatMap fun x => x.2.bytes x.1).length ≤ 215 :=
      (pageFilled_fillPage 40 215 (entriesFrom r i)).bytes
    simp only [List.length_append, List.length_cons, List.length_nil, size_leBytes, size_leOpt]
    omega

/-- The summary of a record, what is absent spelled out. -/
theorem summaryData_of_record {s : State} {r : AllocRecord} (h : s.rounds.record = some r) (i : SlotIdx) :
    summaryData s i =
      0x01#8 :: leBytes 4 (r.serial % 2 ^ 32) ++ leBytes 4 r.capacity ++ leBytes 2 r.floor ++
        leBytes 1 r.ceiling ++ leBytes 4 r.sumF ++ leBytes 4 r.sumM ++ leBytes 4 r.sumX ++
        (if r.sumF = 0 then [0xFF#8, 0xFF#8, 0xFF#8]
          else leBytes 2 (r.sumM / r.sumF) ++ leBytes 1 (r.sumX / r.sumF)) ++
        leBytes 4 (r.capacity - r.sumF) ++
        [byteOf (fillPage 40 215 (entriesFrom r i)).1.length,
          match (fillPage 40 215 (entriesFrom r i)).2 with
          | [] => 0x00#8
          | x :: _ => byteOf (slotNum x.1)] ++
        (fillPage 40 215 (entriesFrom r i)).1.flatMap fun x => x.2.bytes x.1 := by
  have hblend : leOpt 2 r.blend ++ leOpt 1 r.oxygen =
      if r.sumF = 0 then [0xFF#8, 0xFF#8, 0xFF#8]
      else leBytes 2 (r.sumM / r.sumF) ++ leBytes 1 (r.sumX / r.sumF) := by
    rw [AllocRecord.blend, AllocRecord.oxygen]
    split <;> rfl
  have hnext : ∀ left : List (SlotIdx × AllocEntry), ((left.head?).map fun x => byteOf (slotNum x.1)).getD 0#8 =
      match left with
      | [] => 0x00#8
      | x :: _ => byteOf (slotNum x.1) := fun left => by cases left <;> rfl
  rw [summaryData, h, ← hblend, ← hnext]
  simp only [List.append_assoc, roundNumber, AllocRecord.unused, List.cons_append, List.nil_append]

/-- Settles O12: the sizes layout by layout, and a page by the induction of its filling. -/
theorem readRecordSizes : Obligations.ReadRecordSizes := by
  refine ⟨fun s i k => ⟨size_statusData s, size_limitsData s, size_resultsData s, size_windowsData s,
    size_zoneData s k, size_summaryData s i, fun h => size_slotData h i⟩, fun e i => ?size, fun r i n room => ?page,
    fun s i => ⟨?none_, fun r h => summaryData_of_record h i⟩⟩
  case size => exact (size_allocEntry i e).trans (by cases e.standing <;> rfl)
  case page =>
    obtain ⟨hparts, hcount, hbytes, hfull⟩ := pageFilled_fillPage n room (entriesFrom r i)
    exact ⟨fun j e => mem_entriesFrom, entriesFrom_pairwise r i, hparts, hcount, hbytes, hfull⟩
  case none_ => intro h; rw [summaryData, h]

end Sys2Proof.Machine
end

section
/-! PROOFS. The answers of the owning blocks: a refusal changes nothing, and every reply fits a frame (R148, R150,
section 10.1). -/

namespace Sys2Proof.Machine

/-- What an owning block makes of a state, with its answer: accepted, or refused with the state as it was; and the
answer's data, with its code and result, are short enough for a frame. -/
structure Orderly (s : State) (x : State × Answer) : Prop where
  unchanged : x.2.result ≠ .ok → x.2.result ≠ .clamped → x.1 = s
  fits : 2 + x.2.data.length ≤ 250

theorem orderly_accepted {s t : State} (clamped : Bool) {data : List Byte} (h : data.length ≤ 248) :
    Orderly s (t, accepted clamped data) := by
  refine ⟨fun hok hclamped => ?_, Nat.add_le_add_left h 2⟩
  cases clamped
  exacts [absurd rfl hok, absurd rfl hclamped]

theorem orderly_refusal {s : State} (r : Result) {data : List Byte} (h : data.length ≤ 248) :
    Orderly s (s, refusal r data) := ⟨fun _ _ => rfl, Nat.add_le_add_left h 2⟩

/-- A refusal without data. -/
theorem orderly_refused {s : State} (r : Result) : Orderly s (s, refusal r) := orderly_refusal r (Nat.zero_le _)

/-- An acceptance without data. -/
theorem orderly_done {s t : State} : Orderly s (t, accepted false []) := orderly_accepted false (Nat.zero_le _)

/-- A read, answered by data that fit. -/
theorem orderly_read {s : State} {data : List Byte} (h : data.length ≤ 248) : Orderly s (readReply data s) :=
  orderly_accepted false h

theorem orderly_whenEditable {s : State} {edit : State × Answer} (h : Orderly s edit) :
    Orderly s (whenEditable s edit) := by
  rw [whenEditable]; split
  exacts [h, orderly_refused _]

section Answers

variable (s : State) (p : Payload)

/-! ### Reads and notices -/

theorem orderly_readSlot (h : PlansInRange s) : Orderly s (readSlot p s) := by
  rw [readSlot]; split
  · exact orderly_refused _
  · exact orderly_read (by rw [size_slotData h]; decide)

theorem orderly_readZone : Orderly s (readZone p s) := by
  rw [readZone]; split
  · exact orderly_refused _
  · exact orderly_read (by rw [size_zoneData]; omega)

theorem orderly_readRoundSummary : Orderly s (readRoundSummary p s) := by
  rw [readRoundSummary]; split
  · exact orderly_refused _
  · exact orderly_read (size_summaryData s _)

theorem orderly_clearNotices (l : Link) : Orderly s (clearNotices l p s) := by
  simp only [clearNotices]; split
  · exact orderly_accepted _ (by simp)
  · exact orderly_refused _

/-! ### The plan and the roster -/

theorem orderly_editZone : Orderly s (editZone p s) := by
  simp only [editZone]; split
  · exact orderly_refused _
  · exact orderly_whenEditable (orderly_accepted _ (by simp))

theorem orderly_editSlotEntry : Orderly s (editSlotEntry p s) := by
  simp only [editSlotEntry]; split
  · exact orderly_refused _
  next i _ =>
    refine orderly_whenEditable ?_
    split
    next htag =>
      have htag : (entryOf p).tag.length ≤ 12 := by
        rw [tagOk, Bool.and_eq_true, decide_eq_true_eq] at htag
        exact htag.1
      refine orderly_accepted _ ?_
      simp only [SlotEntry.echo, List.length_append, List.length_cons, List.length_nil, size_leBytes]
      omega
    · exact orderly_refused _

theorem orderly_adoptPlan : Orderly s (adoptPlan s) := by
  refine orderly_whenEditable ?_
  split
  · exact orderly_refusal _ (by simp)
  · exact orderly_done

theorem orderly_commissionSlot : Orderly s (commissionSlot p s) := by
  simp only [commissionSlot]; split
  · exact orderly_refused _
  · split
    · exact orderly_accepted _ (by simp)
    · exact orderly_refused _

theorem orderly_retireSlot : Orderly s (retireSlot p s) := by
  simp only [retireSlot]; split
  · exact orderly_refused _
  · split
    · exact orderly_refused _
    · split
      exacts [orderly_refused _, orderly_done]

theorem orderly_reclaimSlot : Orderly s (reclaimSlot p s) := by
  simp only [reclaimSlot]; split
  · exact orderly_refused _
  · split
    · exact orderly_refused _
    · split
      exacts [orderly_refused _, orderly_done]

theorem orderly_storePlan : Orderly s (storePlan s) := by
  rw [storePlan]; split
  · exact orderly_accepted _ (by simp)
  · exact orderly_refused _

/-! ### Rounds and the allocator -/

theorem orderly_setRoundMode : Orderly s (setRoundMode p s) := by
  simp only [setRoundMode]; split
  · exact orderly_refused _
  · exact orderly_accepted _ (by simp)

theorem orderly_hold : Orderly s (hold s) := by
  rw [hold]; split
  exacts [orderly_done, orderly_refused _, orderly_refused _, orderly_refused _]

theorem size_roundReply (computed : Bool) (t : State) : (roundReply computed t).length = 6 := by simp [roundReply]

theorem orderly_release : Orderly s (release s) := by
  rw [release]; split
  case h_1 | h_2 => exact orderly_accepted _ (by rw [size_roundReply]; decide)
  all_goals exact orderly_refused _

theorem orderly_shutIn : Orderly s (shutIn s) := by
  rw [shutIn]; split <;> exact orderly_accepted _ (by simp)

theorem orderly_releaseShutIn : Orderly s (releaseShutIn s) := by
  rw [releaseShutIn]; split
  exacts [orderly_done, orderly_refused _, orderly_refused _, orderly_refused _]

/-! ### Limits, locks, lines and windows -/

theorem orderly_lockSlot : Orderly s (lockSlot p s) := by
  rw [lockSlot]; split
  exacts [orderly_refused _, orderly_done]

theorem orderly_unlockSlot : Orderly s (unlockSlot p s) := by
  rw [unlockSlot]; split
  exacts [orderly_refused _, orderly_done]

theorem orderly_lockZone : Orderly s (lockZone p s) := by
  simp only [lockZone]; split
  exacts [orderly_refused _, orderly_done]

theorem orderly_unlockZone : Orderly s (unlockZone p s) := by
  rw [unlockZone]; split
  exacts [orderly_refused _, orderly_done]

theorem orderly_reArm : Orderly s (reArm p s) := by
  simp only [reArm]; split
  · exact orderly_refused _
  · split
    · exact orderly_accepted _ (by simp [TripLine.bytes])
    · split
      · exact orderly_refusal _ (by simp [TripLine.bytes])
      · exact orderly_accepted _ (by simp [TripLine.bytes])

theorem orderly_disarm : Orderly s (disarm p s) := by
  simp only [disarm]; split
  · exact orderly_refused _
  · exact orderly_accepted _ (by simp [TripLine.bytes])

theorem orderly_setClock : Orderly s (setClock p s) := by
  simp only [setClock]; split
  · exact orderly_accepted _ (by simp)
  · exact orderly_refused _

theorem orderly_setWindow : Orderly s (setWindow p s) := by
  simp only [setWindow]; split
  · exact orderly_refused _
  · split
    · exact orderly_accepted _ (by simp)
    · exact orderly_refused _

/-! ### Manual mode and valve faults -/

theorem orderly_setManual : Orderly s (setManual p s) := by
  simp only [setManual]; split
  · exact orderly_refused _
  · split
    · exact orderly_refused _
    · split
      · exact orderly_refused _
      · split
        · exact orderly_refused _
        · split
          · exact orderly_refused _
          · exact orderly_accepted _ (by simp)

theorem orderly_clearManual : Orderly s (clearManual p s) := by
  simp only [clearManual]; split
  · exact orderly_refused _
  · split
    exacts [orderly_refused _, orderly_done]

theorem orderly_clearValveFault : Orderly s (clearValveFault p s) := by
  simp only [clearValveFault]; split
  · exact orderly_refused _
  · split
    · exact orderly_refused _
    · split <;> exact orderly_done

/-! ### Procedures -/

@[simp] theorem size_setSlots (ts : List TestPlace) : (setSlots ts).length = 8 := by
  simp only [setSlots, List.length_append, List.length_map, List.length_take, List.length_replicate]
  omega

theorem orderly_beginTest : Orderly s (beginTest p s) := by
  simp only [beginTest]; split
  · exact orderly_refused _
  · split
    · exact orderly_refused _
    · split
      · exact orderly_refused _
      · exact orderly_accepted _ (by simp [beginTestReply])

theorem orderly_addTestSlot : Orderly s (addTestSlot p s) := by
  simp only [addTestSlot]; split
  · exact orderly_refused _
  · split
    · exact orderly_refused _
    · split
      · exact orderly_accepted _ (by simp [addTestReply])
      · split
        · exact orderly_refused _
        · split
          · exact orderly_refused _
          · exact orderly_accepted _ (by simp [addTestReply])

theorem orderly_suspendTest : Orderly s (suspendTest s) := by
  simp only [suspendTest]; split
  exacts [orderly_done, orderly_refused _]

theorem orderly_resumeTest : Orderly s (resumeTest s) := by
  simp only [resumeTest]; split
  · exact orderly_accepted _ (by simp)
  all_goals exact orderly_refused _

theorem orderly_beginPurge : Orderly s (beginPurge p s) := by
  simp only [beginPurge]; split
  · exact orderly_refused _
  · split
    · exact orderly_refused _
    · split
      · exact orderly_refused _
      · split
        · exact orderly_refused _
        · exact orderly_accepted _ (by simp)

theorem orderly_abortProcedure : Orderly s (abortProcedure s) := by
  simp only [abortProcedure]; split
  exacts [orderly_refused _, orderly_done]

end Answers

/-- Every owning block's answer is orderly, while no tag is longer than 12 characters. -/
theorem orderly_owner (s : State) (l : Link) (p : Payload) (c : Command) (h : c = .readSlot → PlansInRange s) :
    Orderly s (owner l p c s) := by
  cases c
  case readStatus => exact orderly_read (by rw [size_statusData]; decide)
  case readSlot => exact orderly_readSlot s p (h rfl)
  case readZone => exact orderly_readZone s p
  case readRoundSummary => exact orderly_readRoundSummary s p
  case readLimits => exact orderly_read (by rw [size_limitsData]; decide)
  case readResults => exact orderly_read (by rw [size_resultsData]; decide)
  case readWindows => exact orderly_read (by rw [size_windowsData]; decide)
  case readNotices => exact orderly_read (by simp)
  case clearNotices => exact orderly_clearNotices s p l
  case setNoticeMask => exact orderly_accepted _ (by simp)
  case editPlanParameters => exact orderly_whenEditable (orderly_accepted _ (by simp))
  case setZoneCount => exact orderly_whenEditable (orderly_accepted _ (by simp))
  case editZone => exact orderly_editZone s p
  case editSlotEntry => exact orderly_editSlotEntry s p
  case adoptPlan => exact orderly_adoptPlan s
  case discardPending => exact orderly_whenEditable orderly_done
  case setCapacity => exact orderly_accepted _ (by simp)
  case setRoundMode => exact orderly_setRoundMode s p
  case runRound => exact orderly_accepted _ (by rw [size_roundReply]; decide)
  case setClock => exact orderly_setClock s p
  case setWindow => exact orderly_setWindow s p
  case storePlan => exact orderly_storePlan s
  case setLimits => exact orderly_accepted _ (by simp)
  case lockSlot => exact orderly_lockSlot s p
  case unlockSlot => exact orderly_unlockSlot s p
  case lockZone => exact orderly_lockZone s p
  case unlockZone => exact orderly_unlockZone s p
  case hold => exact orderly_hold s
  case release => exact orderly_release s
  case shutIn => exact orderly_shutIn s
  case releaseShutIn => exact orderly_releaseShutIn s
  case reArm => exact orderly_reArm s p
  case disarm => exact orderly_disarm s p
  case abortProcedure => exact orderly_abortProcedure s
  case commissionSlot => exact orderly_commissionSlot s p
  case retireSlot => exact orderly_retireSlot s p
  case reclaimSlot => exact orderly_reclaimSlot s p
  case setManual => exact orderly_setManual s p
  case clearManual => exact orderly_clearManual s p
  case clearValveFault => exact orderly_clearValveFault s p
  case beginTest => exact orderly_beginTest s p
  case addTestSlot => exact orderly_addTestSlot s p
  case suspendTest => exact orderly_suspendTest s
  case resumeTest => exact orderly_resumeTest s
  case beginPurge => exact orderly_beginPurge s p

/-- A request on a free link, in the three ways it is decided: refused by a check, or by its owner's answer. -/
theorem exec_request_cases {l : Link} {c : Command} {p : Payload} {s : State} (hfree : LinkFree l s) :
    (∃ r, checkRequest l c p = some r ∧ exec (requestInstr l p c) s = .next (answered l (codeOf c) r [] s)) ∨
      exec (requestInstr l p c) s =
        .next
          (answered l (codeOf c) (owner l p c (discarded l s)).2.result (owner l p c (discarded l s)).2.data
            (owner l p c (discarded l s)).1) := by
  cases hcheck : checkRequest l c p with
  | some r => exact .inl ⟨r, rfl, exec_of_refused s l p c r hfree hcheck⟩
  | none => exact .inr (exec_of_admitted s l p c ⟨hfree, hcheck⟩)

@[simp] theorem answered_request (l : Link) (code : Byte) (r : Result) (data : List Byte) (s : State) :
    ((answered l code r data s).links.get l).request = some { code := code, result := r, data := data } := by
  simp [answered]

/-- Settles O9: a check's refusal carries no data, and an owner's answer fits. -/
theorem everyReplyFitsAFrame : Obligations.EveryReplyFitsAFrame := by
  intro l c p s t hplans hfree ht
  rcases exec_request_cases (c := c) (p := p) hfree with ⟨r, -, hexec⟩ | hexec <;>
    obtain rfl := Host.Outcome.next.inj (hexec.symm.trans ht)
  · exact ⟨_, answered_request .., rfl, by simp⟩
  · exact ⟨_, answered_request .., rfl, (orderly_owner (discarded l s) l p c fun _ => hplans).fits⟩

/-- A refusal of Read Slot comes before its data. -/
theorem readSlot_fst (p : Payload) (s : State) : (readSlot p s).1 = s := by
  rw [readSlot]; split <;> rfl

/-- An owner that refuses leaves the state as it was. -/
theorem owner_unchanged {s : State} {l : Link} {p : Payload} {c : Command} (hok : (owner l p c s).2.result ≠ .ok)
    (hclamped : (owner l p c s).2.result ≠ .clamped) : (owner l p c s).1 = s := by
  by_cases hread : c = .readSlot
  · subst hread; exact readSlot_fst p s
  · exact (orderly_owner s l p c fun h => absurd h hread).unchanged hok hclamped

/-- Settles O10: a check's refusal and an owner's leave the state whose frame was taken. -/
theorem refusalsChangeNothing : Obligations.RefusalsChangeNothing := by
  intro l c p s t r hfree ht hrequest hok hclamped
  rcases exec_request_cases (c := c) (p := p) hfree with ⟨x, -, hexec⟩ | hexec <;>
    obtain rfl := Host.Outcome.next.inj (hexec.symm.trans ht) <;>
    obtain rfl := Option.some.inj ((answered_request ..).symm.trans hrequest)
  · rfl
  · rw [owner_unchanged hok hclamped, answered_discarded]

end Sys2Proof.Machine
end

section
/-! PROOFS. The spans of the zones and the edits of the pending plan (01_the_borehole_plan.md). -/

namespace Sys2Proof.Machine

/-! ## The zone of a slot (R5) -/

theorem Plan.bound_of_lt {pl : Plan} {k : ZoneIdx} (h : k.val + 1 < pl.zoneCount) :
    pl.bound (k.val + 1) = (pl.zones.get k).lastSlot := by
  have hin : k.val + 1 - 1 < 10 ∧ k.val + 1 < pl.zoneCount := ⟨k.isLt, h⟩
  rw [Plan.bound, if_neg (Nat.succ_ne_zero _), dif_pos hin]
  rfl

theorem Plan.bound_of_ge {pl : Plan} {k : Nat} (h : pl.zoneCount ≤ k) (hk : k ≠ 0) : pl.bound k = 60 := by
  rw [Plan.bound, if_neg hk, dif_neg (by omega)]

/-- The last slots of a valid plan ascend below Z, and lie below 60. -/
theorem Plan.bound_lt {pl : Plan} (h : pl.valid = true) {j k : Nat} (hjk : j < k) (hk : k < pl.zoneCount) :
    pl.bound j < pl.bound k ∧ pl.bound k ≤ 59 := by
  have hok : ∀ m, 1 ≤ m → m < pl.zoneCount → pl.bound (m - 1) < pl.bound m ∧ pl.bound m ≤ 59 := fun m h1 hm => by
    have hbound := Plan.firstOffending_eq_none.1 (Option.isNone_iff_eq_none.1 h) m h1 hm
    simp only [Plan.boundaryOk, Bool.and_eq_true, decide_eq_true_eq] at hbound
    exact ⟨hbound.2, hbound.1.2⟩
  induction k with
  | zero => exact absurd hjk (Nat.not_lt_zero j)
  | succ k ih =>
    obtain ⟨hstep, hle⟩ := hok (k + 1) (Nat.succ_pos k) hk
    rw [Nat.add_sub_cancel] at hstep
    rcases Nat.lt_succ_iff_lt_or_eq.1 hjk with hlt | rfl
    · exact ⟨(ih hlt (by omega)).1.trans hstep, hle⟩
    · exact ⟨hstep, hle⟩

theorem Plan.bound_mono {pl : Plan} (h : pl.valid = true) {j k : Nat} (hjk : j ≤ k) (hk : k < pl.zoneCount) :
    pl.bound j ≤ pl.bound k := by
  rcases hjk.lt_or_eq with hlt | rfl
  exacts [(Plan.bound_lt h hlt hk).1.le, le_rfl]

/-- A slot's zone is the first whose last slot is not below it. -/
theorem Plan.zoneOf_eq_iff {pl : Plan} (hz : 1 ≤ pl.zoneCount ∧ pl.zoneCount ≤ 10) (i : SlotIdx) (k : ZoneIdx) :
    pl.zoneOf i = k ↔ slotNum i ≤ pl.bound (k.val + 1) ∧ ∀ j : ZoneIdx, j < k → pl.bound (j.val + 1) < slotNum i := by
  have hslot : slotNum i ≤ 60 := i.isLt
  have hfirst : ∀ m : ZoneIdx, allZones.find? (fun k => slotNum i ≤ pl.bound (k.val + 1)) = some m ↔
      slotNum i ≤ pl.bound (m.val + 1) ∧ ∀ j : ZoneIdx, j < m → pl.bound (j.val + 1) < slotNum i := fun m => by
    rw [allZones, ← Fin.find?_eq_find?_finRange, Fin.find?_eq_some_iff]
    simp only [decide_eq_true_eq, decide_eq_false_iff_not, Nat.not_le]
  obtain ⟨m, hm⟩ : ∃ m, allZones.find? (fun k => slotNum i ≤ pl.bound (k.val + 1)) = some m := by
    rw [← Option.isSome_iff_exists, List.find?_isSome]
    refine ⟨9, List.mem_finRange 9, ?_⟩
    rw [Plan.bound_of_ge (by omega) (Nat.succ_ne_zero _)]
    exact decide_eq_true hslot
  rw [← hfirst k, hm, Plan.zoneOf, hm, Option.getD_some, Option.some_inj]

/-- R5: the span of a zone of a valid plan, from above the last slot of the zone before it to its own. -/
theorem Plan.zoneOf_eq_iff_span {pl : Plan} (hz : 1 ≤ pl.zoneCount ∧ pl.zoneCount ≤ 10) (hvalid : pl.valid = true)
    (i : SlotIdx) (k : ZoneIdx) :
    pl.zoneOf i = k ↔ k.val + 1 ≤ pl.zoneCount ∧ pl.bound k.val < slotNum i ∧ slotNum i ≤ pl.bound (k.val + 1) := by
  have hslot : slotNum i ≤ 60 := i.isLt
  rw [Plan.zoneOf_eq_iff hz]
  constructor
  · rintro ⟨hlast, hbelow⟩
    rcases Nat.eq_zero_or_pos k.val with hzero | hpos
    · refine ⟨by omega, ?_, hlast⟩
      rw [hzero, Plan.bound, if_pos rfl]
      exact Nat.succ_pos i.val
    · have hprev : pl.bound k.val < slotNum i := by
        have hjk := hbelow ⟨k.val - 1, by omega⟩ (Fin.mk_lt_of_lt_val (by omega))
        rwa [Nat.sub_add_cancel hpos] at hjk
      refine ⟨Nat.not_lt.1 fun hlt => ?_, hprev, hlast⟩
      rw [Plan.bound_of_ge (by omega) (by omega)] at hprev
      omega
  · rintro ⟨hcount, hbelow, hlast⟩
    exact ⟨hlast, fun j hj => (Plan.bound_mono hvalid (Nat.succ_le_of_lt hj) hcount).trans_lt hbelow⟩

theorem zoneAt_iff_span {s : State} (h : PlansInRange s) (i : SlotIdx) (k : ZoneIdx) :
    zoneAt s i = k ↔
      k.val + 1 ≤ s.plan.active.zoneCount ∧
        (if k.val = 0 then 0 else (s.plan.active.zones.get ⟨k.val - 1, by omega⟩).lastSlot) < slotNum i ∧
        slotNum i ≤ if k.val + 1 < s.plan.active.zoneCount then (s.plan.active.zones.get k).lastSlot else 60 := by
  obtain ⟨hrange, hvalid, -, -⟩ := h
  obtain ⟨hz, -⟩ := (Plan.inRange_iff _).1 hrange
  have hlast : s.plan.active.bound (k.val + 1) =
      if k.val + 1 < s.plan.active.zoneCount then (s.plan.active.zones.get k).lastSlot else 60 := by
    split
    next hlt => exact Plan.bound_of_lt hlt
    next hge => exact Plan.bound_of_ge (Nat.not_lt.1 hge) (Nat.succ_ne_zero _)
  rw [zoneAt, Plan.zoneOf_eq_iff_span (within_iff.1 hz) hvalid, hlast]
  refine and_congr_right fun hcount => and_congr_left fun _ => ?_
  split
  next hzero => rw [hzero, Plan.bound, if_pos rfl]
  next hpos =>
    have hprev := Plan.bound_of_lt (pl := s.plan.active) (k := ⟨k.val - 1, by omega⟩)
      (show k.val - 1 + 1 < _ by omega)
    rw [show (⟨k.val - 1, by omega⟩ : ZoneIdx).val + 1 = k.val from Nat.sub_add_cancel (Nat.pos_of_ne_zero hpos)] at hprev
    rw [hprev]

/-! ## The edits of the pending plan (R3 to R8) -/

/-- An edit while EDITABLE, taken with its frame: the pending plan and the answer given. -/
theorem exec_of_edit {l : Link} {c : Command} {p : Payload} {s : State} (q : Plan) (a : Answer) (ha : Admitted l c p s)
    (h : s.plan.adoption = .editable)
    (howner : owner l p c (discarded l s) = whenEditable (discarded l s) (setPending q (discarded l s), a)) :
    exec (requestInstr l p c) s = .next (answered l (codeOf c) a.result a.data (setPending q s)) :=
  exec_of_owner (setPending q s) a ha
    (by rw [howner, whenEditable_of_editable (show (discarded l s).plan.adoption = _ from h)]; rfl)

/-- R6: a stepping count is stored as other than sent when it is 3 or above 4. -/
theorem steppingFor_number_ne (v : Nat) : (steppingFor v).number ≠ v ↔ v = 3 ∨ 4 < v := by
  rw [steppingFor]
  split
  next h => simp [Stepping.number, h]
  next h0 =>
    split
    next h => simp [Stepping.number, h]
    next h1 =>
      split <;> simp only [Stepping.number] <;> omega

/-- R6: a trip line is stored as other than sent when there is none of its number. -/
theorem lineNum_indexOf_ne (v : Nat) : lineNum (indexOf 4 v) ≠ v ↔ 4 < v := by
  by_cases h : 1 ≤ v ∧ v ≤ 4
  · rw [indexOf, dif_pos h]
    simp only [lineNum]
    omega
  · rw [indexOf, dif_neg h]
    simp only [lineNum]
    omega

theorem tagOk_iff (tag : List Byte) :
    tagOk tag = true ↔ tag.length ≤ 12 ∧ ∀ b ∈ tag, 0x20 ≤ b.toNat ∧ b.toNat ≤ 0x7E := by
  simp [tagOk, printable, List.all_eq_true, within_iff]

theorem editZone_of_zone {p : Payload} {k : ZoneIdx} (h : zoneOfNum (u8 p 0) = some k) (s : State) :
    editZone p s =
      whenEditable s
        (setPending
            { s.plan.pendingPlan with
              zones := s.plan.pendingPlan.zones.set k (zoneFor (u8 p 1) (u8 p 2) (u8 p 3) (u8 p 4)) }
            s,
          accepted
            ((zoneFor (u8 p 1) (u8 p 2) (u8 p 3) (u8 p 4)).ramp ≠ u8 p 2 ∨ (u8 p 3 = 3 ∨ 4 < u8 p 3) ∨ 4 < u8 p 4)
            (byteOf (k.val + 1) :: (zoneFor (u8 p 1) (u8 p 2) (u8 p 3) (u8 p 4)).bytes)) := by
  have hclamped :
      ((zoneFor (u8 p 1) (u8 p 2) (u8 p 3) (u8 p 4)).ramp != u8 p 2 || (steppingFor (u8 p 3)).number != u8 p 3 ||
          lineNum (indexOf 4 (u8 p 4)) != u8 p 4) =
        decide ((zoneFor (u8 p 1) (u8 p 2) (u8 p 3) (u8 p 4)).ramp ≠ u8 p 2 ∨ (u8 p 3 = 3 ∨ 4 < u8 p 3) ∨ 4 < u8 p 4) := by
    rw [Bool.eq_iff_iff]
    simp only [Bool.or_eq_true, bne_iff_ne, decide_eq_true_eq, steppingFor_number_ne, lineNum_indexOf_ne, or_assoc]
  rw [← hclamped, editZone, h]
  rfl

theorem editSlotEntry_of_slot {p : Payload} {i : SlotIdx} (h : slotOf (u8 p 0) = some i) (htag : tagOk (tagSent p) = true)
    (s : State) :
    editSlotEntry p s =
      whenEditable s
        (setPending { s.plan.pendingPlan with entries := s.plan.pendingPlan.entries.set i (entryOf p) } s,
          accepted
            ((entryOf p).priority ≠ u8 p 1 ∨ (entryOf p).uMax ≠ u8 p 2 ∨ (entryOf p).uMin ≠ u8 p 3 ∨
              (entryOf p).staleOverride.getD 0 ≠ u16 p 4)
            ((entryOf p).echo i)) := by
  simp only [editSlotEntry, h, htag, if_true, entryClamped, bne_eq_decide_ne, Bool.decide_or, Bool.or_assoc]

theorem editSlotEntry_of_bad_tag {p : Payload} {i : SlotIdx} {s : State} (h : slotOf (u8 p 0) = some i)
    (htag : ¬tagOk (tagSent p) = true) (hed : s.plan.adoption = .editable) :
    editSlotEntry p s = (s, refusal .badValue) := by
  simp only [editSlotEntry, h]
  rw [whenEditable_of_editable hed, if_neg htag]

theorem entryOf_eq (p : Payload) :
    entryOf p =
      { priority := min 3 (u8 p 1), uMax := min 100 (u8 p 2), uMin := min 50 (u8 p 3),
        tag := (p.drop 7).take (u8 p 6),
        staleOverride := if u16 p 4 = 0 then none else some (max 20 (min 600 (u16 p 4))) } := rfl

/-- Settles O14: the spans from the ascending last slots of a valid plan, and each edit by its owner. -/
theorem planEdits : Obligations.PlanEdits := by
  refine ⟨fun s i k h => zoneAt_iff_span h i k, fun l p s h => ⟨?parameters, ?count, fun k ha hk => ?zone,
    fun i ha hi => ⟨fun htag => ?entry, fun htag => ?badTag⟩⟩⟩
  case parameters =>
    intro ha
    refine exec_of_edit (c := .editPlanParameters) _ (accepted _ _) ha h ?_
    show editPlanParameters p (discarded l s) = _
    simp only [editPlanParameters, bne_eq_decide_ne, ← Bool.decide_or]
    rfl
  case count =>
    intro ha
    refine exec_of_edit (c := .setZoneCount) _ (accepted _ _) ha h ?_
    show setZoneCount p (discarded l s) = _
    simp only [setZoneCount, bne_eq_decide_ne]
    rfl
  case zone => exact exec_of_edit (c := .editZone) _ (accepted _ _) ha h (editZone_of_zone hk _)
  case entry =>
    refine (exec_of_edit (c := .editSlotEntry) _ (accepted _ _) ha h
      (editSlotEntry_of_slot hi ((tagOk_iff _).2 htag) _)).trans ?_
    rw [entryOf_eq]
    simp only [SlotEntry.echo, leBytes_one, List.append_assoc, List.cons_append, List.nil_append]
    rfl
  case badTag =>
    exact exec_of_refusal (c := .editSlotEntry) ha
      (editSlotEntry_of_bad_tag hi (fun hok => htag ((tagOk_iff _).1 hok)) h)

end Sys2Proof.Machine
end

section
/-! PROOFS. The Round Controller: its settings, the commands that are round events, what a round event does, and the
allocator's requests (sections 3.1 to 3.4). -/

namespace Sys2Proof.Machine

/-! ## States that agree block by block -/

/-- Two states with the same blocks are one. -/
theorem State.eq_of_blocks {s t : State} (helapsed : t.elapsed = s.elapsed) (hlinks : t.links = s.links)
    (hplan : t.plan = s.plan) (hscanner : t.scanner = s.scanner) (hrounds : t.rounds = s.rounds)
    (hmotion : t.motion = s.motion) (hgas : t.gas = s.gas) (htrips : t.trips = s.trips) (hproc : t.proc = s.proc)
    (hstore : t.store = s.store) (hpending : t.pending = s.pending) : t = s := by
  cases s
  cases t
  cases helapsed; cases hlinks; cases hplan; cases hscanner; cases hrounds; cases hmotion; cases hgas; cases htrips
  cases hproc; cases hstore; cases hpending
  rfl

/-- An admitted request, by what its owner makes of the state whose frame has been taken. -/
theorem exec_of_decision {l : Link} {c : Command} {p : Payload} {s t : State} {a : Answer} (h : Admitted l c p s)
    (howner : owner l p c (discarded l s) = (t, a)) :
    exec (requestInstr l p c) s = .next (answered l (codeOf c) a.result a.data t) := by
  rw [exec_of_admitted s l p c h, howner]

/-! ## Set Capacity and Set Round Mode (R41, R47) -/

theorem setCapacity_eq (p : Payload) (s : State) :
    setCapacity p s =
      ({ s with
          rounds :=
            { s.rounds with
              capacity := min 1200000 (u32 p 0)
              requests := requestsAfter (decide (min 1200000 (u32 p 0) < s.rounds.capacity)) s.rounds.requests
              requestsAhead := requestsAfter (decide (min 1200000 (u32 p 0) < s.rounds.capacity)) s.rounds.requestsAhead } },
        accepted (decide (min 1200000 (u32 p 0) ≠ u32 p 0)) (leBytes 4 (min 1200000 (u32 p 0)))) := by
  simp only [setCapacity, bne_eq_decide_ne]
  split
  next h => simp only [requestRoundAhead, requestsAfter, h, decide_true, if_true]
  next h => simp only [requestsAfter, h, decide_false, Bool.false_eq_true, if_false]

theorem setRoundMode_of_mode {p : Payload} {m : RoundMode} (h : modeOf (u8 p 0) = some m) (s : State) :
    setRoundMode p s =
      ({ s with
          rounds :=
            { s.rounds with
              mode := m
              period := max 5 (min 600 (u16 p 1))
              nextExpiry := expiryAfter m (max 5 (min 600 (u16 p 1))) s.elapsed } },
        accepted (decide (max 5 (min 600 (u16 p 1)) ≠ u16 p 1)) (m.byte :: leBytes 2 (max 5 (min 600 (u16 p 1))))) := by
  simp only [setRoundMode, h, clampTo, bne_eq_decide_ne]

theorem setRoundMode_of_none {p : Payload} (h : modeOf (u8 p 0) = none) (s : State) :
    setRoundMode p s = (s, refusal .badValue) := by
  simp only [setRoundMode, h]

/-- Settles O19: the capacity with the request it may send, and the two modes that a byte names. -/
theorem roundSettings : Obligations.RoundSettings := by
  refine ⟨fun l p s ha => ?capacity, fun l p s ha => ⟨fun h => ?cycling, fun h => ?stepped, fun h => ?bad⟩⟩
  case capacity => exact exec_of_owner (c := .setCapacity) _ (accepted _ _) ha (setCapacity_eq p _)
  case cycling =>
    exact exec_of_owner (c := .setRoundMode) _ (accepted _ _) ha (setRoundMode_of_mode (m := .cycling) (by rw [h]; rfl) _)
  case stepped =>
    exact exec_of_owner (c := .setRoundMode) _ (accepted _ _) ha (setRoundMode_of_mode (m := .stepped) (by rw [h]; rfl) _)
  case bad =>
    have hnone : modeOf (u8 p 0) = none := by rw [modeOf, if_neg (by omega), if_neg (by omega)]
    exact exec_of_refusal (c := .setRoundMode) ha (setRoundMode_of_none hnone _)

/-! ## The commands that are round events (R42, R43, R46, R47) -/

theorem execRoundTimerExpiry_of_due {s : State} {e : Nat} (h : s.rounds.nextExpiry = some e) (hdue : e ≤ s.elapsed) :
    execRoundTimerExpiry s = .next (timerRound e s) := by
  rw [execRoundTimerExpiry, h]
  exact if_pos hdue

theorem execRoundTimerExpiry_of_early {s : State} {e : Nat} (h : s.rounds.nextExpiry = some e) (hearly : s.elapsed < e) :
    execRoundTimerExpiry s = .next s := by
  rw [execRoundTimerExpiry, h]
  exact if_neg (Nat.not_le.2 hearly)

theorem execRoundTimerExpiry_of_none {s : State} (h : s.rounds.nextExpiry = none) :
    execRoundTimerExpiry s = .next s := by
  rw [execRoundTimerExpiry, h]

/-- What the rounds that come first and a round event leave of the settings. -/
theorem roundAfterAhead_settings (s : State) :
    (roundEvent (roundsAhead s)).rounds.mode = s.rounds.mode ∧
      (roundEvent (roundsAhead s)).rounds.period = s.rounds.period ∧ (roundEvent (roundsAhead s)).elapsed = s.elapsed := by
  obtain ⟨hmode, hperiod, -⟩ := roundEvent_settings (roundsAhead s)
  obtain ⟨hmodeAhead, hperiodAhead, -⟩ := roundsAhead_settings s
  exact ⟨hmode.trans hmodeAhead, hperiod.trans hperiodAhead, by simp⟩

/-- One round that comes first is the next round event. -/
theorem roundsAhead_of_succ {s : State} {m n : Nat} (hahead : s.rounds.requestsAhead = m + 1)
    (hrequests : s.rounds.requests = n + 1) :
    roundsAhead s = roundsAhead (roundEvent { s with rounds := { s.rounds with requests := n, requestsAhead := m } }) := by
  have hfirst : takeRequested s = roundEvent { s with rounds := { s.rounds with requests := n, requestsAhead := m } } := by
    rw [takeRequested_some hrequests, hahead]
    rfl
  rw [roundsAhead, hahead, Function.iterate_succ_apply, hfirst, roundsAhead, roundEvent_requestsAhead]

theorem runRound_eq (s : State) :
    runRound s =
      (setExpiry (expiryAfter s.rounds.mode s.rounds.period s.elapsed) (roundEvent (roundsAhead s)),
        accepted false (roundReply (running s) (roundEvent (roundsAhead s)))) := by
  obtain ⟨hmode, hperiod, helapsed⟩ := roundAfterAhead_settings s
  rw [runRound]
  generalize roundEvent (roundsAhead s) = t at hmode hperiod helapsed ⊢
  rw [← hmode, ← hperiod, ← helapsed]
  rfl

/-- Settles O20: the timer, the requested round and Run Round, each by its case. -/
theorem roundEventCommands : Obligations.RoundEventCommands := by
  refine ⟨fun s e h => ⟨fun hdue => ?due, fun hearly => execRoundTimerExpiry_of_early h hearly⟩,
    fun s => ⟨fun h => execRoundTimerExpiry_of_none h, fun h => congrArg Host.Outcome.next (takeRequested_none h),
      fun n h => congrArg Host.Outcome.next (takeRequested_some h)⟩,
    fun l p s ha => ?run, fun s => ⟨roundsAhead_of_zero, fun m n => roundsAhead_of_succ⟩⟩
  case due =>
    obtain ⟨-, hperiod, -⟩ := roundAfterAhead_settings s
    refine (execRoundTimerExpiry_of_due h hdue).trans ?_
    rw [timerRound, hperiod]
  case run =>
    refine (exec_of_decision (c := .runRound) ha (runRound_eq (discarded l s))).trans ?_
    generalize roundEvent (roundsAhead (discarded l s)) = t
    rw [discarded_rounds, discarded_elapsed]
    cases s.rounds.mode <;> rfl

/-! ## The outcome of a round event (R44, R60, R68) -/

/-- Two states that the issue of entries does not tell apart. -/
structure SameIssues (s t : State) : Prop where
  elapsed : t.elapsed = s.elapsed
  active : t.plan.active = s.plan.active
  motion : t.motion = s.motion
  running : running t = running s

theorem SameIssues.nextIssue {s t : State} (h : SameIssues s t) (k : ZoneIdx) : nextIssue t k = nextIssue s k := by
  have hmay : mayIssue t = mayIssue s := by
    funext e
    rw [mayIssue, mayIssue, valveOf, valveOf, h.motion, h.running]
  have hcount : movingCount t k = movingCount s k := by
    simp only [movingCount, zoneAt, valveOf, h.motion, h.active]
  have hallows : steppingAllows t k = steppingAllows s k := by
    rw [steppingAllows, steppingAllows, h.active, hcount]
  rw [Machine.nextIssue, Machine.nextIssue, hmay, hallows, h.motion]

theorem SameIssues.issueEntry {s t : State} (h : SameIssues s t) (k : ZoneIdx) (e : QueueEntry) :
    SameIssues (issueEntry k e s) (issueEntry k e t) where
  elapsed := h.elapsed
  active := h.active
  motion := by simp only [Machine.issueEntry, setValve, valveOf, h.motion, h.elapsed]
  running := h.running

theorem SameIssues.issueLoop {s t : State} (h : SameIssues s t) (n : Nat) (k : ZoneIdx) :
    SameIssues (issueLoop n k s) (issueLoop n k t) := by
  induction n generalizing s t with
  | zero => exact h
  | succ n ih =>
    rw [Machine.issueLoop, Machine.issueLoop, h.nextIssue k]
    cases Machine.nextIssue s k with
    | none => exact h
    | some e => exact ih (h.issueEntry k e)

theorem SameIssues.issueZone {s t : State} (h : SameIssues s t) (k : ZoneIdx) :
    SameIssues (issueZone k s) (issueZone k t) := by
  rw [Machine.issueZone, Machine.issueZone, h.motion]
  exact h.issueLoop _ k

theorem SameIssues.issueAll {s t : State} (h : SameIssues s t) : SameIssues (issueAll s) (issueAll t) := by
  have hall : ∀ (ks : List ZoneIdx) {s t : State}, SameIssues s t →
      SameIssues (ks.foldl (fun s k => Machine.issueZone k s) s) (ks.foldl (fun s k => Machine.issueZone k s) t) :=
    fun ks => by
      induction ks with
      | nil => exact id
      | cons k ks ih => exact fun h => ih (h.issueZone k)
  exact hall allZones h

theorem roundEvent_of_running {s : State} (ha : s.plan.adoption = .editable) (hrun : running s = true) :
    roundEvent s = issueAll (computeRound s) := by
  rw [roundEvent, completeAdoption_of_editable ha, computeOrMiss, if_pos hrun]

theorem roundEvent_of_not_running {s : State} (ha : s.plan.adoption = .editable) (hrun : running s = false) :
    roundEvent s = issueAll (markMissed s) := by
  rw [roundEvent, completeAdoption_of_editable ha, computeOrMiss, hrun, if_neg Bool.false_ne_true]

theorem computeRound_rounds (s : State) :
    (computeRound s).rounds =
      { s.rounds with
        computed := s.rounds.computed + 1, record := some (allocate s), staleMarks := newMarks (allocate s) s.rounds.staleMarks } := by
  rw [computeRound, raiseIf_rounds, raise_rounds]
  rfl

theorem computeRound_motion (s : State) :
    (computeRound s).motion = (handTargets (s.rounds.computed + 1) (allocate s).handed (allocate s).placeOf s).motion := by
  rw [computeRound, raiseIf_motion, raise_motion]
  rfl

/-- The entries of a computed round are issued as those of its handed targets. -/
theorem sameIssues_computeRound {s : State} :
    SameIssues (handTargets (s.rounds.computed + 1) (allocate s).handed (allocate s).placeOf s) (computeRound s) where
  elapsed := by simp
  active := by simp
  motion := computeRound_motion s
  running := by rw [running, computeRound_rounds]; rfl

/-- The targets are not changed by the issue of entries. -/
theorem issueLoop_target (n : Nat) (k : ZoneIdx) (s : State) (i : SlotIdx) :
    (valveOf (issueLoop n k s) i).target = (valveOf s i).target := by
  refine issueLoop_induction (k := k) (R := fun s t => (valveOf t i).target = (valveOf s i).target) (fun _ => rfl)
    (fun {s t e} _ hrest => hrest.trans ?_) n s
  rw [valveOf_issueEntry]; split
  next hi => rw [hi]
  · rfl

theorem issueAll_target (s : State) (i : SlotIdx) : (valveOf (issueAll s) i).target = (valveOf s i).target :=
  kept_issueAll (P := fun t => (valveOf t i).target = (valveOf s i).target)
    (fun k h => (issueLoop_target _ k _ i).trans h) rfl

/-! ### The stale-run marks (R60) -/

theorem newMarks_get (r : AllocRecord) (marks : Table 60 Bool) (i : SlotIdx) :
    (newMarks r marks).get i = if (r.entries.get i).isSome then r.showsStale i else marks.get i :=
  Table.get_tabulate _ i

theorem showsStale_iff (r : AllocRecord) (i : SlotIdx) :
    r.showsStale i = true ↔ (r.entries.get i).map (·.standing) = some (.closed .stale) := by
  rw [AllocRecord.showsStale]
  cases r.entries.get i <;> simp

theorem newlyStale_iff (r : AllocRecord) (marks : Table 60 Bool) :
    newlyStale r marks = true ↔
      ∃ i, (r.entries.get i).map (·.standing) = some (.closed .stale) ∧ marks.get i = false := by
  simp [newlyStale, allSlots, showsStale_iff]

theorem computeRound_links (s : State) :
    (computeRound s).links =
      if newlyStale (allocate s) s.rounds.staleMarks then
        noticedLinks .slotStale { s with links := noticedLinks .roundDone s }
      else noticedLinks .roundDone s := by
  simp only [computeRound, raiseIf]
  split <;> rfl

theorem noticed_slotStale {s : State} (h : newlyStale (allocate s) s.rounds.staleMarks = true) :
    Noticed .slotStale (computeRound s) := by
  simp only [computeRound, raiseIf, h, if_true]
  exact noticed_raise _ _

theorem noticed_roundDone (s : State) : Noticed .roundDone (computeRound s) :=
  (noticed_raise .roundDone (handTargets (allocate s).serial (allocate s).handed (allocate s).placeOf _)).mono
    (RaisesOnly.raiseIf _ _ _)

/-- Settles O21: the round computed or missed, then the marks slot by slot and the notices they raise. -/
theorem roundEventOutcome : Obligations.RoundEventOutcome := by
  refine ⟨fun s ha => ?outcome, fun s i => ⟨fun hstale => ?marked, fun st hst hne => ?cleared, fun hnone => ?kept,
    fun hstale hmark => ?begun⟩, fun s => ⟨fun hbegins => ?run, fun hnone => ?noRun⟩⟩
  case outcome =>
    intro t r hands place
    refine ⟨fun hrun => ?_, fun hrun => ?_, ?_⟩
    · have hhands : hands = r.handed := by
        funext i
        simp only [hands, AllocRecord.handed]
        cases r.entries.get i with
        | none => rfl
        | some e => rcases e with ⟨standing, _, _, _, _⟩; cases standing <;> rfl
      have hround : t = issueAll (computeRound s) := roundEvent_of_running ha hrun
      rw [hround, issueAll_rounds, issueAll_links, hhands]
      exact ⟨computeRound_rounds s, sameIssues_computeRound.issueAll.motion, rfl,
        (noticed_roundDone s).mono (.of_eq (issueAll_links _))⟩
    · have hround : t = issueAll (markMissed s) := roundEvent_of_not_running ha hrun
      have hsame : SameIssues s (markMissed s) := ⟨rfl, rfl, rfl, rfl⟩
      rw [hround, issueAll_rounds, issueAll_links]
      exact ⟨rfl, rfl, hsame.issueAll.motion, fun i => issueAll_target (markMissed s) i⟩
    · have hplan : t.plan = s.plan := by
        rw [roundEvent_plan, completeAdoption_of_editable ha]
      have hproc : t.proc = s.proc := by
        simp only [t, roundEvent, completeAdoption_of_editable ha, issueAll_proc, computeOrMiss_proc]
      have helapsed : t.elapsed = s.elapsed := roundEvent_elapsed s
      have hscanner : t.scanner = s.scanner := roundEvent_scanner s
      have hgas : t.gas = s.gas := roundEvent_gas s
      have htrips : t.trips = s.trips := roundEvent_trips s
      have hstore : t.store = s.store := roundEvent_store s
      have hpending : t.pending = s.pending := roundEvent_pending s
      clear_value t
      exact State.eq_of_blocks helapsed rfl hplan hscanner rfl rfl hgas htrips hproc hstore hpending
  case marked =>
    have hshows := (showsStale_iff _ _).2 hstale
    rw [computeRound_rounds, newMarks_get, hshows]
    cases he : (allocate s).entries.get i with
    | none => rw [he] at hstale; cases hstale
    | some e => rfl
  case cleared =>
    have hshows : (allocate s).showsStale i = false :=
      Bool.eq_false_iff.2 fun hshows => hne (Option.some.inj (hst.symm.trans ((showsStale_iff _ _).1 hshows)))
    rw [computeRound_rounds, newMarks_get, hshows]
    cases he : (allocate s).entries.get i with
    | none => rw [he] at hst; cases hst
    | some e => rfl
  case kept => rw [computeRound_rounds, newMarks_get, hnone]; rfl
  case begun => exact noticed_slotStale ((newlyStale_iff _ _).2 ⟨i, hstale, hmark⟩)
  case run => rw [computeRound_links, if_pos ((newlyStale_iff _ _).2 hbegins)]
  case noRun =>
    rw [computeRound_links, if_neg fun h => ?_]
    obtain ⟨i, hi⟩ := (newlyStale_iff _ _).1 h
    exact hnone i hi

/-! ## The allocator (R50 to R54) -/

theorem hold_of_running {s : State} (h : s.rounds.allocator = .running) :
    hold s = (setAllocator .held s, accepted false []) := by rw [hold, h]

theorem hold_of_not_running {s : State} (h : s.rounds.allocator ≠ .running) : hold s = (s, refusal .allocState) := by
  cases ha : s.rounds.allocator with
  | running => exact absurd ha h
  | startup | held | shutIn => rw [hold, ha]

theorem Allocator.isShutIn_iff (a : Allocator) : a.isShutIn = true ↔ ∃ c, a = .shutIn c := by
  cases a <;> simp [Allocator.isShutIn]

theorem releaseShutIn_of_shutIn {s : State} (h : s.rounds.allocator.isShutIn = true) :
    releaseShutIn s = (setAllocator .held s, accepted false []) := by
  obtain ⟨c, hc⟩ := (Allocator.isShutIn_iff _).1 h
  rw [releaseShutIn, hc]

theorem releaseShutIn_of_open {s : State} (h : s.rounds.allocator.isShutIn = false) :
    releaseShutIn s = (s, refusal .allocState) := by
  cases ha : s.rounds.allocator with
  | shutIn c => rw [ha] at h; cases h
  | startup | running | held => rw [releaseShutIn, ha]

theorem release_of_closed {s : State} (h : s.rounds.allocator = .startup ∨ s.rounds.allocator = .held) :
    release s = (releaseNow s, accepted false (roundReply s.rounds.missed (releaseNow s))) := by
  rcases h with h | h <;> rw [release, h]

theorem release_of_open {s : State} (h : s.rounds.allocator = .running ∨ s.rounds.allocator.isShutIn = true) :
    release s = (s, refusal .allocState) := by
  rcases h with h | h
  · rw [release, h]
  · obtain ⟨c, hc⟩ := (Allocator.isShutIn_iff _).1 h
    rw [release, hc]

/-- The count of computed rounds after a round event of a RUNNING allocator. -/
theorem roundEvent_computed_of_running {s : State} (h : s.rounds.allocator = .running) :
    (roundEvent s).rounds.computed = s.rounds.computed + 1 := by
  have hrun : running (completeAdoption s) = true := by rw [running, completeAdoption_rounds, h]; rfl
  rw [roundEvent, issueAll_rounds, computeOrMiss, if_pos hrun, computeRound_rounds, completeAdoption_rounds]

/-- The count of computed rounds after a round event of another allocator. -/
theorem roundEvent_computed_of_not_running {s : State} (h : s.rounds.allocator ≠ .running) :
    (roundEvent s).rounds.computed = s.rounds.computed := by
  have hrun : running (completeAdoption s) = false := by
    rw [running, completeAdoption_rounds]
    simpa using h
  rw [roundEvent, issueAll_rounds, computeOrMiss, hrun, if_neg Bool.false_ne_true, markMissed, completeAdoption_rounds]

theorem roundsAhead_computed_of_not_running {s : State} (h : s.rounds.allocator ≠ .running) :
    (roundsAhead s).rounds.computed = s.rounds.computed := by
  rw [roundsAhead]
  generalize s.rounds.requestsAhead = n
  induction n generalizing s with
  | zero => rfl
  | succ n ih =>
    obtain ⟨-, -, -, halloc, -⟩ := takeRequested_settings s
    rw [Function.iterate_succ_apply, ih (by rw [halloc]; exact h)]
    rw [takeRequested]; split
    · rfl
    · exact roundEvent_computed_of_not_running h

theorem releaseNow_of_missed {s : State} (h : s.rounds.missed = true) :
    releaseNow s = clearMissed (roundEvent (setAllocator .running (roundsAhead s))) := by
  rw [releaseNow, h, if_pos rfl]
  rfl

theorem releaseNow_of_none_missed {s : State} (h : s.rounds.missed = false) :
    releaseNow s = issueAll (setAllocator .running s) := by
  rw [releaseNow, h, if_neg Bool.false_ne_true]

/-- What a Release with its catch-up round leaves of the settings and the count. -/
theorem catchUp_settings {s : State} (h : s.rounds.allocator ≠ .running) :
    (roundEvent (setAllocator .running (roundsAhead s))).rounds.allocator = .running ∧
      (roundEvent (setAllocator .running (roundsAhead s))).rounds.computed = s.rounds.computed + 1 ∧
      (roundEvent (setAllocator .running (roundsAhead s))).rounds.nextExpiry = s.rounds.nextExpiry := by
  obtain ⟨-, -, hexpiry, halloc, -⟩ := roundEvent_settings (setAllocator .running (roundsAhead s))
  obtain ⟨-, -, hexpiryAhead, -⟩ := roundsAhead_settings s
  refine ⟨halloc, ?_, hexpiry.trans hexpiryAhead⟩
  rw [roundEvent_computed_of_running rfl]
  exact congrArg (· + 1) (roundsAhead_computed_of_not_running h)

/-- Settles O22: each request in the allocator's states, and Release by its missed flag. -/
theorem allocatorRequests : Obligations.AllocatorRequests := by
  refine ⟨fun l p s ha => ⟨fun h => ?hold, fun h => ?notHeld⟩, fun l p s ha => ⟨fun h => ?shutIn, fun h => ?notShutIn⟩,
    fun l p s ha => ⟨fun h => ⟨fun hmissed => ?catchUp, fun hmissed => ?issue⟩, fun h => ?notReleased⟩⟩
  case hold =>
    exact exec_of_owner (c := .hold) _ (accepted false []) ha (hold_of_running (s := discarded l s) h)
  case notHeld => exact exec_of_refusal (c := .hold) ha (hold_of_not_running (s := discarded l s) h)
  case shutIn =>
    exact exec_of_owner (c := .releaseShutIn) _ (accepted false []) ha (releaseShutIn_of_shutIn (s := discarded l s) h)
  case notShutIn =>
    exact exec_of_refusal (c := .releaseShutIn) ha (releaseShutIn_of_open (s := discarded l s) h)
  case notReleased => exact exec_of_refusal (c := .release) ha (release_of_open (s := discarded l s) h)
  case catchUp =>
    have hclosed : s.rounds.allocator ≠ .running := by rcases h with h | h <;> rw [h] <;> nofun
    obtain ⟨halloc, hcomputed, hexpiry⟩ := catchUp_settings (s := discarded l s) hclosed
    have hexec := exec_of_decision (c := .release) ha (release_of_closed (s := discarded l s) h)
    intro t
    have ht : roundEvent (setAllocator .running (roundsAhead (discarded l s))) = t := rfl
    rw [releaseNow_of_missed (s := discarded l s) hmissed, show (discarded l s).rounds.missed = true from hmissed, ht]
      at hexec
    rw [ht] at halloc hcomputed hexpiry
    clear_value t
    refine ⟨hexec.trans ?_, hexpiry⟩
    rw [roundReply]
    simp only [clearMissed, halloc, hcomputed]
    rfl
  case issue =>
    refine (exec_of_decision (c := .release) ha (release_of_closed (s := discarded l s) h)).trans ?_
    rw [releaseNow_of_none_missed (s := discarded l s) hmissed, roundReply, issueAll_rounds,
      show (discarded l s).rounds.missed = false from hmissed]
    rfl

/-! ## Entering SHUT-IN (R48, R52, R53) -/

theorem shutIn_of_open {s : State} (h : s.rounds.allocator.isShutIn = false) :
    shutIn s = (enterShutIn .commanded s, accepted false [0x00#8]) := by
  cases ha : s.rounds.allocator with
  | shutIn c => rw [ha] at h; cases h
  | startup | running | held => rw [shutIn, ha]; rfl

theorem shutIn_of_shutIn {s : State} (h : s.rounds.allocator.isShutIn = true) :
    shutIn s = (setAllocator (.shutIn .commanded) s, accepted false [0x00#8]) := by
  obtain ⟨c, hc⟩ := (Allocator.isShutIn_iff _).1 h
  rw [shutIn, hc]
  rfl

theorem enterShutIn_discarded (c : ShutCause) (l : Link) (s : State) :
    enterShutIn c (discarded l s) = discarded l (enterShutIn c s) :=
  raise_discarded .shutIn l (closeManifold (setAllocator (.shutIn c) s))

theorem valveOf_closeManifold (s : State) (i : SlotIdx) :
    valveOf (closeManifold s) i = (valveOf s i).urgentClose (lifecycleOf s i) s.elapsed := by
  show valveOf (urgentClose (fun _ => true) s) i = _
  rw [valveOf_urgentClose, if_pos rfl]

/-- Settles O23: the entry by Shut In and by the gas band, and the closing valve by valve. -/
theorem enteringShutIn : Obligations.EnteringShutIn := by
  refine ⟨⟨fun l p s ha => ⟨fun h => ?enter, fun h => ?cause⟩, fun s n hn => ⟨fun h => ?gasBand, fun h => ?again⟩⟩,
    fun s => ⟨fun i => ?valve, (shut_closeManifold s).2, rfl⟩⟩
  case enter =>
    exact exec_of_owner (c := .shutIn) (enterShutIn .commanded s) (accepted false [0x00#8]) ha
      ((shutIn_of_open (s := discarded l s) h).trans (by rw [enterShutIn_discarded]))
  case cause =>
    exact exec_of_owner (c := .shutIn) _ (accepted false [0x00#8]) ha (shutIn_of_shutIn (s := discarded l s) h)
  case gasBand =>
    show execGasBandRequest s = _
    rw [execGasBandRequest, hn]
    simp only [h, Bool.false_eq_true, if_false]
    rfl
  case again =>
    show execGasBandRequest s = _
    rw [execGasBandRequest, hn]
    simp only [h, if_true]
  case valve =>
    rw [valveOf_closeManifold]
    exact ⟨rfl, rfl, rfl, Valve.urgentClose_state_of_stuck s.elapsed, Valve.urgentClose_state_of_free s.elapsed,
      Valve.urgentClose_state_of_outOfService s.elapsed⟩

end Sys2Proof.Machine
end

section
/-! PROOFS. A valve that becomes STUCK: at a travel timeout, at the copy of a plan, and what Clear Valve Fault does
after it (sections 1.5, 4.4, 4.5). -/

namespace Sys2Proof.Machine

/-! ## One valve STUCK (R79, R131) -/

/-- A valve made STUCK keeps its positions. -/
def Valve.stuck (v : Valve) : Valve := { v with state := .stuck }

theorem Valve.stuck_of_isStuck {v : Valve} (h : v.isStuck = true) : v.stuck = v := by
  obtain ⟨target, commanded, reported, state⟩ := v
  obtain rfl : state = .stuck := beq_iff_eq.1 h
  rfl

theorem valveOf_congr {s t : State} (h : t.motion = s.motion) (i : SlotIdx) : valveOf t i = valveOf s i := by
  rw [valveOf, valveOf, h]

theorem valveOf_stickValve (i : SlotIdx) (s : State) (j : SlotIdx) :
    valveOf (stickValve i s) j = if j = i then (valveOf s j).stuck else valveOf s j := by
  cases hstuck : (valveOf s i).isStuck with
  | true =>
    rw [stickValve_of_stuck hstuck]
    split
    next hj => rw [hj, Valve.stuck_of_isStuck hstuck]
    · rfl
  | false =>
    rw [valveOf_congr (stickValve_motion_of_unstuck hstuck), valveOf_removeEntries, valveOf_setValve]
    split
    next hj => rw [hj]; rfl
    · rfl

theorem stickValve_queues_of_unstuck {s : State} {i : SlotIdx} (h : (valveOf s i).isStuck = false) (k : ZoneIdx) :
    (stickValve i s).motion.queues.get k = (s.motion.queues.get k).filter fun e => !(e.slot == i) := by
  rw [stickValve_motion_of_unstuck h, removeEntries_queues_get]
  rfl

theorem stickValve_of_unstuck {s : State} {i : SlotIdx} (h : (valveOf s i).isStuck = false) :
    stickValve i s =
      dropStuck i (raise .valveFault (removeEntries (fun j => j == i) (setValve i (valveOf s i).stuck s))) := by
  rw [stickValve, h, if_neg Bool.false_ne_true]
  rfl

theorem noticed_stickValve {s : State} {i : SlotIdx} (h : (valveOf s i).isStuck = false) :
    Noticed .valveFault (stickValve i s) := by
  rw [stickValve_of_unstuck h]
  exact (noticed_raise _ _).mono (raises_dropStuck _ _)

/-- A slot outside a settling test leaves no test. -/
theorem dropStuck_of_outside {s : State} {i : SlotIdx} (h : s.proc.state ≠ .settling ∨ inTestSet s i = false) :
    dropStuck i s = s := by
  rw [dropStuck, if_neg]
  simpa [imp_iff_not_or] using h

theorem stickValve_of_outside {s : State} {i : SlotIdx} (hstuck : (valveOf s i).isStuck = false)
    (h : s.proc.state ≠ .settling ∨ inTestSet s i = false) :
    (stickValve i s).proc = s.proc ∧ (stickValve i s).links = noticedLinks .valveFault s := by
  rw [stickValve_of_unstuck hstuck, dropStuck_of_outside]
  exacts [⟨rfl, rfl⟩, h]

/-- The state with another motion. -/
def withMotion (m : Motion) (s : State) : State := { s with motion := m }

/-- What leaving a settling test makes of the procedure and the links does not depend on the valves. -/
theorem dropStuck_withMotion (m : Motion) (i : SlotIdx) (s : State) :
    dropStuck i (withMotion m s) = withMotion m (dropStuck i s) := by
  have hmeasure : ∀ t : State, enterMeasuring (withMotion m t) = withMotion m (enterMeasuring t) := fun t => by
    have hproc : measuringProc (withMotion m t) = measuringProc t := rfl
    rw [enterMeasuring, enterMeasuring, hproc]
    split <;> rfl
  have hexamine : ∀ t : State, examineSettling (withMotion m t) = withMotion m (examineSettling t) := fun t => by
    have hproc : (withMotion m t).proc = t.proc := rfl
    rw [examineSettling, examineSettling, hmeasure, hproc]
    split
    · rfl
    · split <;> rfl
  have hproc : (withMotion m s).proc = s.proc := rfl
  have hin : inTestSet (withMotion m s) i = inTestSet s i := rfl
  rw [dropStuck, dropStuck, hproc, hin]
  split
  · exact hexamine (setProc _ s)
  · rfl

/-- A slot that has no entry after it. -/
theorem stickValve_not_queued {s : State} {i : SlotIdx} (h : (valveOf s i).isStuck = false) (k : ZoneIdx) :
    ∀ e ∈ (stickValve i s).motion.queues.get k, e.slot ≠ i := fun e he => by
  rw [stickValve_queues_of_unstuck h, List.mem_filter] at he
  simpa using he.2

/-! ## The travel timeout (R79) -/

theorem isStuck_of_moving {v : Valve} {start : Nat} (h : v.state = .moving start) : v.isStuck = false := by
  rw [Valve.isStuck, h]
  rfl

theorem moveExpired_of_moving {s : State} {i : SlotIdx} {start : Nat} (h : (valveOf s i).state = .moving start) :
    moveExpired s i = decide (start + s.plan.active.travelTimeout ≤ s.elapsed) := by
  rw [moveExpired, h]

theorem sameIssues_stickValve {s : State} {i : SlotIdx} (h : (valveOf s i).isStuck = false) :
    SameIssues (removeEntries (fun j => j == i) (setValve i (valveOf s i).stuck s)) (stickValve i s) where
  elapsed := stickValve_elapsed s i
  active := congrArg PlanTable.active (stickValve_plan s i)
  motion := stickValve_motion_of_unstuck h
  running := by rw [running, stickValve_rounds]; rfl

theorem stickAndIssue_motion {s : State} {i : SlotIdx} (h : (valveOf s i).isStuck = false) :
    (stickAndIssue i s).motion =
      (issueZone (zoneAt s i) (removeEntries (fun j => j == i) (setValve i (valveOf s i).stuck s))).motion := by
  rw [stickAndIssue_of_unstuck _ _ h]
  exact ((sameIssues_stickValve h).issueZone (zoneAt s i)).motion

theorem valveOf_stickAndIssue {s : State} {i : SlotIdx} (h : (valveOf s i).isStuck = false) :
    valveOf (stickAndIssue i s) i = (valveOf s i).stuck := by
  rw [stickAndIssue_of_unstuck _ _ h, valveOf_issueZone_of_not_queued _ _ (stickValve_not_queued h _), valveOf_stickValve,
    if_pos rfl]

theorem stickAndIssue_not_queued {s : State} {i : SlotIdx} (h : (valveOf s i).isStuck = false) (k : ZoneIdx) :
    ∀ e ∈ (stickAndIssue i s).motion.queues.get k, e.slot ≠ i := fun e he => by
  rw [stickAndIssue_of_unstuck _ _ h] at he
  by_cases hk : k = zoneAt s i
  · subst hk
    exact stickValve_not_queued h _ e ((issueZone_queue_sublist _ _).subset he)
  · rw [issueZone_queues_get_ne _ _ hk] at he
    exact stickValve_not_queued h k e he

/-- A valve STUCK and its zone tested touch the links, the motion and the procedure only. -/
theorem stickAndIssue_frame (i : SlotIdx) (s : State) :
    { stickAndIssue i s with links := s.links, motion := s.motion, proc := s.proc } = s :=
  State.eq_of_blocks (stickAndIssue_elapsed s i) rfl (stickAndIssue_plan s i) (stickAndIssue_scanner s i)
    (stickAndIssue_rounds s i) rfl (stickAndIssue_gas s i) (stickAndIssue_trips s i) rfl (stickAndIssue_store s i)
    (stickAndIssue_pending s i)

theorem stickAndIssue_proc_links {s : State} {i : SlotIdx} (h : (valveOf s i).isStuck = false) :
    (stickAndIssue i s).proc = (stickValve i s).proc ∧ (stickAndIssue i s).links = (stickValve i s).links := by
  rw [stickAndIssue_of_unstuck _ _ h, issueZone_proc, issueZone_links]
  exact ⟨rfl, rfl⟩

/-- The valves apart, a valve that becomes STUCK does to the part what leaving the test does. -/
theorem stickValve_dropStuck {s : State} {i : SlotIdx} (h : (valveOf s i).isStuck = false) :
    (stickValve i s).proc = (dropStuck i { s with links := noticedLinks .valveFault s }).proc ∧
      (stickValve i s).links = (dropStuck i { s with links := noticedLinks .valveFault s }).links := by
  have hparts : stickValve i s =
      withMotion (removeEntries (fun j => j == i) (setValve i (valveOf s i).stuck s)).motion
        (dropStuck i { s with links := noticedLinks .valveFault s }) := by
    rw [← dropStuck_withMotion, stickValve_of_unstuck h]
    rfl
  rw [hparts]
  exact ⟨rfl, rfl⟩

/-- Settles O29: the timeout by the move's age, the valve and the zone, and the test by what its slot leaves. -/
theorem travelTimeout : Obligations.TravelTimeout := by
  refine fun s i start hmoving => ⟨fun hdue => ?expired, fun hearly => ?early⟩
  case expired =>
    have hfree := isStuck_of_moving hmoving
    have hexpired : moveExpired s i = true := (moveExpired_of_moving hmoving).trans (decide_eq_true hdue)
    obtain ⟨hproc, hlinks⟩ := stickAndIssue_proc_links hfree
    refine ⟨stickAndIssue i s, if_pos hexpired, valveOf_stickAndIssue hfree, ?_, stickAndIssue_not_queued hfree,
      stickAndIssue_motion hfree, stickAndIssue_frame i s, fun h => ?_, fun _ _ => ?_⟩
    · exact (noticed_stickValve hfree).mono (.of_eq hlinks)
    · rw [hproc, hlinks]; exact stickValve_of_outside hfree h
    · rw [hproc, hlinks]; exact stickValve_dropStuck hfree
  case early =>
    have hexpired : moveExpired s i = false := (moveExpired_of_moving hmoving).trans (decide_eq_false (by omega))
    exact if_neg (Bool.eq_false_iff.1 hexpired)

/-! ## The copy of a plan (R11 to R13, R79) -/

theorem valveOf_foldl_stickValve (is : List SlotIdx) (s : State) (j : SlotIdx) :
    valveOf (is.foldl (fun t i => stickValve i t) s) j = if j ∈ is then (valveOf s j).stuck else valveOf s j := by
  induction is generalizing s with
  | nil => rfl
  | cons i is ih =>
    rw [List.foldl_cons, ih, valveOf_stickValve]
    by_cases hj : j = i <;> by_cases hmem : j ∈ is <;> simp [hj, hmem, Valve.stuck]

/-- Valves that move, made STUCK one after another, lose their entries. -/
theorem foldl_stickValve_queues {is : List SlotIdx} (hnodup : is.Nodup) {s : State}
    (h : ∀ i ∈ is, (valveOf s i).isStuck = false) (k : ZoneIdx) :
    (is.foldl (fun t i => stickValve i t) s).motion.queues.get k =
      (s.motion.queues.get k).filter fun e => !decide (e.slot ∈ is) := by
  induction is generalizing s with
  | nil => simp
  | cons i is ih =>
    obtain ⟨hi, hrest⟩ := List.nodup_cons.1 hnodup
    have hfree : ∀ j ∈ is, (valveOf (stickValve i s) j).isStuck = false := fun j hj => by
      rw [valveOf_stickValve, if_neg (ne_of_mem_of_not_mem hj hi)]
      exact h j (List.mem_cons_of_mem _ hj)
    rw [List.foldl_cons, ih hrest hfree, stickValve_queues_of_unstuck (h i (List.mem_cons_self ..)), List.filter_filter]
    refine List.filter_congr fun e _ => ?_
    by_cases he : e.slot = i <;> simp [he]

theorem noticed_foldl_stickValve {is : List SlotIdx} {s : State} (h : ∀ i ∈ is, (valveOf s i).isStuck = false)
    (hsome : is ≠ []) : Noticed .valveFault (is.foldl (fun t i => stickValve i t) s) := by
  cases is with
  | nil => exact absurd rfl hsome
  | cons i is => exact (noticed_stickValve (h i (List.mem_cons_self ..))).mono (raises_foldl_stickValve _ is)

/-- Valves of slots outside a settling test leave the procedure as it was. -/
theorem foldl_stickValve_proc {is : List SlotIdx} {s : State}
    (h : s.proc.state ≠ .settling ∨ ∀ i ∈ is, inTestSet s i = false) :
    (is.foldl (fun t i => stickValve i t) s).proc = s.proc := by
  induction is generalizing s with
  | nil => rfl
  | cons i is ih =>
    have hone : (stickValve i s).proc = s.proc := by
      cases hstuck : (valveOf s i).isStuck with
      | true => rw [stickValve_of_stuck hstuck]
      | false => exact (stickValve_of_outside hstuck (h.imp_right fun hset => hset i (List.mem_cons_self ..))).1
    rw [List.foldl_cons, ih ?_, hone]
    rw [hone]
    refine h.imp_right fun hset j hj => ?_
    rw [inTestSet, hone]
    exact hset j (List.mem_cons_of_mem _ hj)

/-- The moves that time out at the copy of the pending plan. -/
def expiredAtCopy (s : State) : List SlotIdx := allSlots.filter (moveExpired (copyPlan s))

theorem mem_expiredAtCopy {s : State} {i : SlotIdx} : i ∈ expiredAtCopy s ↔ moveExpired (copyPlan s) i = true := by
  rw [expiredAtCopy, List.mem_filter]
  exact and_iff_right (List.mem_finRange i)

theorem unstuck_of_moveExpired {s : State} {i : SlotIdx} (h : moveExpired s i = true) :
    (valveOf s i).isStuck = false := by
  cases hstate : (valveOf s i).state with
  | moving start => exact isStuck_of_moving hstate
  | atRest | stuck => rw [moveExpired, hstate] at h; cases h

theorem expiredAtCopy_unstuck {s : State} : ∀ i ∈ expiredAtCopy s, (valveOf (copyPlan s) i).isStuck = false :=
  fun _ hi => unstuck_of_moveExpired (mem_expiredAtCopy.1 hi)

theorem expiredAtCopy_nodup (s : State) : (expiredAtCopy s).Nodup := (List.nodup_finRange 60).filter _

theorem completeAdoption_eq {s : State} (h : s.plan.adoption = .adopting) :
    completeAdoption s = (expiredAtCopy s).foldl (fun t i => stickValve i t) (copyPlan s) :=
  completeAdoption_of_adopting h

/-- A completed adoption: the plan copied whole, EDITABLE, and PlanAdopted noticed. -/
structure AdoptedFrom (s t : State) : Prop where
  plan : t.plan = { s.plan with active := s.plan.pendingPlan, adoption := .editable }
  noticed : Noticed .planAdopted t

theorem AdoptedFrom.mono {s t u : State} (h : AdoptedFrom s t) (hplan : u.plan = t.plan) (hraises : RaisesOnly t u) :
    AdoptedFrom s u := ⟨hplan.trans h.plan, h.noticed.mono hraises⟩

theorem adoptedFrom_completeAdoption {s : State} (h : s.plan.adoption = .adopting) :
    AdoptedFrom s (completeAdoption s) := by
  refine ⟨completeAdoption_plan_of_adopting h, ?_⟩
  have hcopy : Noticed .planAdopted (copyPlan s) := (noticed_raise .planAdopted _).mono (.of_eq rfl)
  rw [completeAdoption_eq h]
  exact hcopy.mono (raises_foldl_stickValve _ _)

theorem AdoptedFrom.setRounds {s t : State} (h : AdoptedFrom s t) (r : Rounds) : AdoptedFrom s { t with rounds := r } :=
  ⟨h.plan, h.noticed⟩

theorem AdoptedFrom.roundEvent {s t : State} (h : AdoptedFrom s t) : AdoptedFrom s (roundEvent t) := by
  refine h.mono ?_ (raises_roundEvent t)
  rw [roundEvent_plan, completeAdoption_of_editable (by rw [h.plan])]

theorem adoptedFrom_roundEvent {s t : State} (ha : s.plan.adoption = .adopting) (hplan : t.plan = s.plan) :
    AdoptedFrom s (Machine.roundEvent t) := by
  have hadopted := adoptedFrom_completeAdoption (s := t) (by rw [hplan, ha])
  refine ⟨?_, hadopted.noticed.mono ?_⟩
  · rw [roundEvent_plan, hadopted.plan, hplan]
  · exact (raises_computeOrMiss _).trans (.of_eq (issueAll_links _))

/-- A plan not yet copied, or copied already: what the rounds that come first leave. -/
def AdoptingOrAdopted (s t : State) : Prop := t.plan = s.plan ∨ AdoptedFrom s t

theorem AdoptingOrAdopted.roundEvent {s t : State} (ha : s.plan.adoption = .adopting) (h : AdoptingOrAdopted s t) :
    AdoptedFrom s (roundEvent t) := h.elim (adoptedFrom_roundEvent ha) AdoptedFrom.roundEvent

theorem AdoptingOrAdopted.roundsAhead {s t : State} (ha : s.plan.adoption = .adopting) (h : AdoptingOrAdopted s t) :
    AdoptingOrAdopted s (roundsAhead t) := by
  rw [Machine.roundsAhead]
  generalize t.rounds.requestsAhead = n
  induction n generalizing t with
  | zero => exact h
  | succ n ih =>
    rw [Function.iterate_succ_apply]
    refine ih ?_
    rw [takeRequested]; split
    · exact h
    · exact .inr (AdoptingOrAdopted.roundEvent ha (h.imp id fun hadopted => hadopted.setRounds _))

/-- A round event, after the rounds that come first, completes the adoption. -/
theorem adoptedFrom_nextRound {s t : State} (ha : s.plan.adoption = .adopting) (hplan : t.plan = s.plan) :
    AdoptedFrom s (roundEvent (roundsAhead t)) :=
  AdoptingOrAdopted.roundEvent ha (AdoptingOrAdopted.roundsAhead ha (.inl hplan))

theorem AdoptedFrom.answered {s t : State} (h : AdoptedFrom s t) (l : Link) (code : Byte) (r : Result) (d : List Byte) :
    AdoptedFrom s (answered l code r d t) := ⟨h.plan, h.noticed.answered l code r d⟩

/-- Settles O16: a round event of each kind completes the adoption, and the copy valve by valve and queue by queue. -/
theorem adoptionCompletesAtRoundEvents : Obligations.AdoptionCompletesAtRoundEvents := by
  refine ⟨fun s ha => ?events, fun s ha => ?copy⟩
  case events =>
    have hwhole : ∀ t, AdoptedFrom s t →
        t.plan.active = s.plan.pendingPlan ∧ t.plan.pendingPlan = s.plan.pendingPlan ∧
          t.plan.adoption = .editable ∧ t.plan.roster = s.plan.roster ∧ Noticed .planAdopted t :=
      fun t ht => by rw [ht.plan]; exact ⟨rfl, rfl, rfl, rfl, ht.noticed⟩
    refine ⟨fun e he hdue => ?_, fun l p hadm => ?_, fun hrequests => ?_, fun l p hadm hmissed halloc => ?_⟩
    · refine ⟨_, execRoundTimerExpiry_of_due he hdue, hwhole _ ?_⟩
      exact AdoptedFrom.setRounds (t := roundEvent (roundsAhead s)) (adoptedFrom_nextRound ha rfl) _
    · refine ⟨_, exec_of_decision (c := .runRound) hadm (runRound_eq (discarded l s)), hwhole _ (AdoptedFrom.answered ?_ ..)⟩
      exact AdoptedFrom.setRounds (t := roundEvent (roundsAhead (discarded l s))) (adoptedFrom_nextRound ha rfl) _
    · obtain ⟨n, hn⟩ := Nat.exists_eq_succ_of_ne_zero hrequests.ne'
      refine ⟨_, congrArg Host.Outcome.next (takeRequested_some hn), hwhole _ (adoptedFrom_roundEvent ha rfl)⟩
    · have hclosed := release_of_closed (s := discarded l s) halloc.symm.symm
      refine ⟨_, exec_of_decision (c := .release) hadm hclosed, hwhole _ (AdoptedFrom.answered ?_ ..)⟩
      rw [releaseNow_of_missed (s := discarded l s) hmissed]
      refine AdoptedFrom.setRounds (AdoptingOrAdopted.roundEvent ha (t := setAllocator .running _) ?_) _
      exact (AdoptingOrAdopted.roundsAhead ha (t := discarded l s) (.inl rfl)).imp id fun hadopted => hadopted.setRounds _
  case copy =>
    intro copied expired c
    have hexpired : ∀ i, (i ∈ expiredAtCopy s ↔ expired i = true) := fun i => by
      rw [mem_expiredAtCopy]
      show moveExpired (copyPlan s) i = true ↔ _
      have hvalve : (valveOf (copyPlan s) i).state = (valveOf s i).state := rfl
      simp only [moveExpired, expired, hvalve]
      cases (valveOf s i).state <;> exact Iff.rfl
    have hc : c = (expiredAtCopy s).foldl (fun t i => stickValve i t) (copyPlan s) := completeAdoption_eq ha
    have hadopted : AdoptedFrom s c := adoptedFrom_completeAdoption ha
    have hvalves : ∀ i, valveOf c i = if i ∈ expiredAtCopy s then (valveOf s i).stuck else valveOf s i := fun i => by
      rw [hc, valveOf_foldl_stickValve]; rfl
    refine ⟨?_, hadopted.plan, hadopted.noticed, fun i hi => ⟨?_, ?_⟩, fun i hi => ?_, fun k => ?_, fun hproc => ?_,
      fun hnone => ?_, ?_⟩
    · have hagain : completeAdoption c = c := completeAdoption_of_editable (by rw [hadopted.plan])
      rw [roundEvent, roundEvent, hagain]
    · rw [hvalves, if_pos ((hexpired i).2 hi)]; rfl
    · rw [hc]
      exact noticed_foldl_stickValve expiredAtCopy_unstuck (List.ne_nil_of_mem ((hexpired i).2 hi))
    · rw [hvalves, if_neg fun hmem => by rw [(hexpired i).1 hmem] at hi; cases hi]
    · rw [hc, foldl_stickValve_queues (expiredAtCopy_nodup s) expiredAtCopy_unstuck]
      refine List.filter_congr fun e _ => ?_
      rw [Bool.not_inj_iff, Bool.eq_iff_iff, ← hexpired, decide_eq_true_eq]
    · rw [hc]
      refine foldl_stickValve_proc (s := copyPlan s) (hproc.imp id fun hset i hi => ?_)
      refine Bool.eq_false_iff.2 fun hin => ?_
      have hi := (hexpired i).1 hi
      rw [hset i hin] at hi
      cases hi
    · have hempty : expiredAtCopy s = [] := List.eq_nil_iff_forall_not_mem.2 fun i hi => by
        have hi := (hexpired i).1 hi
        rw [hnone i] at hi
        cases hi
      rw [hc, hempty]
      rfl
    · have helapsed : c.elapsed = s.elapsed := completeAdoption_elapsed s
      have hscanner : c.scanner = s.scanner := completeAdoption_scanner s
      have hrounds : c.rounds = s.rounds := completeAdoption_rounds s
      have hgas : c.gas = s.gas := completeAdoption_gas s
      have htrips : c.trips = s.trips := completeAdoption_trips s
      have hstore : c.store = s.store := completeAdoption_store s
      have hpending : c.pending = s.pending := completeAdoption_pending s
      clear_value c
      exact State.eq_of_blocks helapsed rfl rfl hscanner hrounds rfl hgas htrips rfl hstore hpending

/-! ## Clear Valve Fault (R84) -/

theorem closesOnClear_iff (s : State) (i : SlotIdx) :
    closesOnClear s i = true ↔
      s.rounds.allocator = .startup ∨ s.rounds.allocator.isShutIn = true ∨ lifecycleOf s i = .retiring ∨
        (locked s i = true ∧ ¬(inManual s i = true ∧ s.gas.keyActive = true)) ∨ tripped s i = true ∨
        (inTestSet s i = true ∧ (s.proc.state = .settling ∨ s.proc.state = .measuring)) := by
  simp only [closesOnClear, closedByLock, testClosing, Bool.or_eq_true, Bool.and_eq_true, beq_iff_eq,
    Bool.not_eq_true', Bool.and_eq_false_iff, or_assoc, not_and_or, Bool.not_eq_true]

section ClearFault

variable {p : Payload} {i : SlotIdx} (hp : slotOf (u8 p 0) = some i) {s : State}

include hp

theorem clearValveFault_of_unstuck (h : (valveOf s i).isStuck = false) :
    clearValveFault p s = (s, refusal .valveState) := by
  simp only [clearValveFault, hp, h, Bool.not_false, if_true]

theorem clearValveFault_of_closes (h : (valveOf s i).isStuck = true) (hcloses : closesOnClear s i = true) :
    clearValveFault p s = (closeSlot i (setValve i { valveOf s i with state := .atRest } s), accepted false []) := by
  simp only [clearValveFault, hp, h, hcloses, Bool.not_true, Bool.false_eq_true, if_false, if_true]

theorem clearValveFault_of_held (h : (valveOf s i).isStuck = true) (hopen : closesOnClear s i = false) :
    clearValveFault p s = (setValve i (valveOf s i).heldAtRest s, accepted false []) := by
  simp only [clearValveFault, hp, h, hopen, Bool.not_true, Bool.false_eq_true, if_false]

end ClearFault

theorem Valve.isStuck_iff (v : Valve) : v.isStuck = true ↔ v.state = .stuck := beq_iff_eq

theorem Valve.heldAtRest_of_reported {v : Valve} {q : Nat} (h : v.reported = some q) :
    v.heldAtRest = { v with target := q, commanded := q, state := .atRest } := by rw [Valve.heldAtRest, h]

theorem Valve.heldAtRest_of_none {v : Valve} (h : v.reported = none) :
    v.heldAtRest = { v with target := v.commanded, state := .atRest } := by rw [Valve.heldAtRest, h]

/-- Settles O30: the valve that is not STUCK, then the first situation, then the position the head last put it in. -/
theorem clearValveFaultLaw : Obligations.ClearValveFault := by
  intro l p s i ha hp first rested
  have hfirst : closesOnClear (discarded l s) i = true ↔ first := closesOnClear_iff (discarded l s) i
  have hstuck : (valveOf (discarded l s) i).isStuck = true ↔ (valveOf s i).state = .stuck := Valve.isStuck_iff _
  refine ⟨fun h => ?unstuck, fun h hcloses => ?closes, fun h hopen => ⟨fun q hq => ?reported, fun hq => ?unreported⟩⟩
  case unstuck =>
    exact exec_of_refusal (c := .clearValveFault) ha
      (clearValveFault_of_unstuck hp (Bool.eq_false_iff.2 fun hs => h (hstuck.1 hs)))
  case closes =>
    exact exec_of_decision (c := .clearValveFault) ha (clearValveFault_of_closes hp (hstuck.2 h) (hfirst.2 hcloses))
  all_goals
    refine (exec_of_decision (c := .clearValveFault) ha
      (clearValveFault_of_held hp (hstuck.2 h) (Bool.eq_false_iff.2 fun hc => hopen (hfirst.1 hc)))).trans ?_
  case reported => rw [Valve.heldAtRest_of_reported (v := valveOf (discarded l s) i) hq]; rfl
  case unreported => rw [Valve.heldAtRest_of_none (v := valveOf (discarded l s) i) hq]; rfl

end Sys2Proof.Machine
end

section
/-! PROOFS. The Gas Limit Monitor: the limits, what a manifold reading does, the manifold watch, and the override
key (sections 5.1, 5.3 to 5.5), with the poll that follows a reply (section 2.2). -/

namespace Sys2Proof.Machine

/-! ## Set Limits (R91, R92, R94) -/

/-- R91 by the alarm state. -/
theorem GasMonitor.effectiveFloor_eq (g : GasMonitor) :
    g.effectiveFloor =
      if g.alarm.isRaised = true then min 900 (g.limits.cFloor + g.limits.margin) else g.limits.cFloor := by
  rw [GasMonitor.effectiveFloor]
  cases g.alarm <;> rfl

/-- The clamped limits differ from those sent exactly when one of the six does. -/
theorem clampLimits_bne (sent : Limits) :
    (clampLimits sent != sent) =
      decide
        ((clampLimits sent).cFloor ≠ sent.cFloor ∨ (clampLimits sent).oCeil ≠ sent.oCeil ∨
          (clampLimits sent).aFloor ≠ sent.aFloor ∨ (clampLimits sent).aO2 ≠ sent.aO2 ∨
          (clampLimits sent).margin ≠ sent.margin ∨ (clampLimits sent).alarmCount ≠ sent.alarmCount) := by
  cases sent
  rw [Bool.eq_iff_iff, bne_iff_ne, decide_eq_true_iff]
  simp only [clampLimits, ne_eq, Limits.mk.injEq]
  tauto

theorem requestRoundIf_eq (b : Bool) (s : State) :
    requestRoundIf b s = { s with rounds := { s.rounds with requests := requestsAfter b s.rounds.requests } } := by
  cases b <;> rfl

/-- R94: what asks for a round. -/
theorem limitsTighten_eq (raised : Bool) (old new : Limits) :
    limitsTighten raised old new =
      decide (old.cFloor < new.cFloor ∨ new.oCeil < old.oCeil ∨ (raised = true ∧ old.margin < new.margin)) := by
  rw [Bool.eq_iff_iff]
  simp [limitsTighten, or_assoc]

/-- The state with other limits, a round requested when they ask for one. -/
def withLimits (m : Limits) (s : State) : State :=
  { s with
    gas := { s.gas with limits := m }
    rounds :=
      { s.rounds with
        requests :=
          requestsAfter
            (decide
              (s.gas.limits.cFloor < m.cFloor ∨ m.oCeil < s.gas.limits.oCeil ∨
                (s.gas.alarm.isRaised = true ∧ s.gas.limits.margin < m.margin)))
            s.rounds.requests } }

theorem Limits.bytes_eq (m : Limits) :
    m.bytes =
      leBytes 2 m.cFloor ++ leBytes 1 m.oCeil ++ leBytes 2 m.aFloor ++ leBytes 1 m.aO2 ++ leBytes 1 m.margin ++
        leBytes 1 m.alarmCount := by
  simp only [Limits.bytes, leBytes_one, List.append_assoc, List.cons_append, List.nil_append]

/-- Set Limits, for any state: the clamped limits, the request of R94, and the reply. -/
theorem setLimits_eq (p : Payload) (s : State) :
    setLimits p s =
      (withLimits (clampLimits (limitsSent p)) s,
        accepted (clampLimits (limitsSent p) != limitsSent p)
          ((clampLimits (limitsSent p)).bytes ++
            leBytes 2
              (if s.gas.alarm.isRaised = true then
                min 900 ((clampLimits (limitsSent p)).cFloor + (clampLimits (limitsSent p)).margin)
              else (clampLimits (limitsSent p)).cFloor))) := by
  simp only [setLimits, requestRoundIf_eq, GasMonitor.effectiveFloor_eq, limitsTighten_eq, withLimits]

/-- Settles O32: the clamps, the request of R94 and the effective floor of R91. -/
theorem setLimitsLaw : Obligations.SetLimits := by
  intro l p s ha cFloor oCeil aFloor aO2 margin k old raised tighter floor
  refine (exec_of_owner (c := .setLimits) (withLimits (clampLimits (limitsSent p)) s) (accepted _ _) ha
    (setLimits_eq p (discarded l s))).trans ?_
  rw [Limits.bytes_eq, clampLimits_bne]
  rfl

/-! ## The mix alarm, the watch and the gas band take a manifold reading (R101 to R106) -/

section Deliveries

variable {s : State}

theorem alarmTakes_in_of_clear (h : s.gas.alarm = .clear) :
    alarmTakes false s = { s with gas := { s.gas with outCount := 0 } } := by
  rw [alarmTakes, h]
  rfl

theorem alarmTakes_out_of_clear (h : s.gas.alarm = .clear) (hfew : s.gas.outCount + 1 < s.gas.limits.alarmCount) :
    alarmTakes true s = { s with gas := { s.gas with outCount := s.gas.outCount + 1 } } := by
  rw [alarmTakes, h]
  exact if_neg (Nat.not_le.2 hfew)

theorem alarmTakes_raises (h : s.gas.alarm = .clear) (hmany : s.gas.limits.alarmCount ≤ s.gas.outCount + 1) :
    alarmTakes true s = raiseAlarm .readings s := by
  rw [alarmTakes, h]
  exact if_pos hmany

theorem alarmTakes_out_of_raised {a : AlarmCause} (h : s.gas.alarm = .raised a) :
    alarmTakes true s = { s with gas := { s.gas with inCount := 0 } } := by
  rw [alarmTakes, h]
  rfl

theorem alarmTakes_in_of_raised {a : AlarmCause} (h : s.gas.alarm = .raised a)
    (hfew : s.gas.inCount + 1 < s.gas.limits.alarmCount) :
    alarmTakes false s = { s with gas := { s.gas with inCount := s.gas.inCount + 1 } } := by
  rw [alarmTakes, h]
  exact if_neg (Nat.not_le.2 hfew)

theorem alarmTakes_clears {a : AlarmCause} (h : s.gas.alarm = .raised a)
    (hmany : s.gas.limits.alarmCount ≤ s.gas.inCount + 1) : alarmTakes false s = clearAlarm s := by
  rw [alarmTakes, h]
  exact if_pos hmany

/-- What the alarm leaves of the monitor and the rounds. -/
theorem alarmTakes_leaves (out : Bool) (s : State) :
    (alarmTakes out s).gas.limits = s.gas.limits ∧ (alarmTakes out s).gas.slotLocks = s.gas.slotLocks ∧
      (alarmTakes out s).gas.zoneLocks = s.gas.zoneLocks ∧ (alarmTakes out s).gas.watch = s.gas.watch ∧
      (alarmTakes out s).gas.watchRef = s.gas.watchRef ∧ (alarmTakes out s).gas.bandCount = s.gas.bandCount ∧
      (alarmTakes out s).rounds.gasBandRequests = s.rounds.gasBandRequests := by
  rw [alarmTakes]
  repeat' split
  all_goals exact ⟨rfl, rfl, rfl, rfl, rfl, rfl, rfl⟩

/-- What the watch and the gas band leave of what the alarm made. -/
theorem deliver_alarm (d : Delivery) (s : State) :
    (deliver d s).gas.alarm = (alarmTakes (readingOut s.gas.limits d) s).gas.alarm ∧
      (deliver d s).gas.outCount = (alarmTakes (readingOut s.gas.limits d) s).gas.outCount ∧
      (deliver d s).gas.inCount = (alarmTakes (readingOut s.gas.limits d) s).gas.inCount ∧
      (deliver d s).links = (alarmTakes (readingOut s.gas.limits d) s).links ∧
      (deliver d s).rounds.requests = (alarmTakes (readingOut s.gas.limits d) s).rounds.requests ∧
      (deliver d s).gas.limits = (alarmTakes (readingOut s.gas.limits d) s).gas.limits ∧
      (deliver d s).gas.slotLocks = (alarmTakes (readingOut s.gas.limits d) s).gas.slotLocks ∧
      (deliver d s).gas.zoneLocks = (alarmTakes (readingOut s.gas.limits d) s).gas.zoneLocks := by
  simp only [deliver, bandTakes, watchTakes]
  repeat' split
  all_goals exact ⟨rfl, rfl, rfl, rfl, rfl, rfl, rfl, rfl⟩

/-- R104: a reading with c and o good renews the watch. -/
theorem deliver_watch (d : Delivery) (s : State) :
    (deliver d s).gas.watch = (if d.methaneFault || d.oxygenFault then s.gas.watch else .armed) ∧
      (deliver d s).gas.watchRef = if d.methaneFault || d.oxygenFault then s.gas.watchRef else d.time := by
  obtain ⟨-, -, -, hwatch, href, -⟩ := alarmTakes_leaves (readingOut s.gas.limits d) s
  rw [← hwatch, ← href]
  simp only [deliver, bandTakes, watchTakes]
  constructor <;> repeat' split
  all_goals rfl

/-- R106: the gas band by its count. -/
theorem deliver_band (d : Delivery) (s : State) :
    (deliver d s).gas.bandCount =
        (if d.methaneFault || gasBand ≤ d.c then 0 else if s.gas.bandCount = 0 then 1 else 0) ∧
      (deliver d s).rounds.gasBandRequests =
        if d.methaneFault || gasBand ≤ d.c then s.rounds.gasBandRequests
        else if s.gas.bandCount = 0 then s.rounds.gasBandRequests else s.rounds.gasBandRequests + 1 := by
  obtain ⟨-, -, -, -, -, hband, hrequests⟩ := alarmTakes_leaves (readingOut s.gas.limits d) s
  have hcount : (watchTakes d (alarmTakes (readingOut s.gas.limits d) s)).gas.bandCount = s.gas.bandCount := by
    rw [← hband, watchTakes]; split <;> rfl
  have hwait : (watchTakes d (alarmTakes (readingOut s.gas.limits d) s)).rounds.gasBandRequests =
      s.rounds.gasBandRequests := by rw [watchTakes_rounds, hrequests]
  rw [← hcount, ← hwait, deliver, bandTakes]
  constructor <;> repeat' split
  all_goals rfl

/-- R101: a reading is out when c or o is faulted, or lies beyond the alarm limits. -/
theorem readingOut_iff (m : Limits) (d : Delivery) :
    readingOut m d = true ↔
      ¬(d.methaneFault = false ∧ d.oxygenFault = false) ∨ d.c < m.aFloor ∨ m.aO2 < d.o := by
  simp only [readingOut, Bool.or_eq_true, decide_eq_true_eq, ← Bool.not_eq_true]
  tauto

end Deliveries

/-! ## The poll that follows (R22 to R24) -/

/-- The next poll depends on the plan, the valves and the procedure alone. -/
theorem nextPoll_congr {s t : State} (hplan : t.plan = s.plan) (hmotion : t.motion = s.motion)
    (hproc : t.proc = s.proc) (hs : List HeadAddr) :
    (nextPoll hs t).scanner.poll = (nextPoll hs s).scanner.poll ∧
      (nextPoll hs t).scanner.remaining = (nextPoll hs s).scanner.remaining := by
  have hservice : inService t = inService s := by
    funext i
    simp only [inService, lifecycleOf, hplan]
  have horders : pollOf t = pollOf s := by
    funext h
    cases h
    · rfl
    · simp only [pollOf, valveOf, isPurgeSlot, hmotion, hproc]
  induction hs with
  | nil => simp only [nextPoll, startCycle, sendPoll, cycleSlots, horders, hservice, and_self]
  | cons h hs ih =>
    cases h with
    | manifold => simp only [nextPoll, sendPoll, horders, and_self]
    | slot i =>
      simp only [nextPoll, hservice]
      split
      · simp only [sendPoll, horders, and_self]
      · exact ih

theorem sendNext_congr {s t : State} (hplan : t.plan = s.plan) (hmotion : t.motion = s.motion)
    (hproc : t.proc = s.proc) (hremaining : t.scanner.remaining = s.scanner.remaining) :
    (sendNext t).scanner.poll = (sendNext s).scanner.poll ∧
      (sendNext t).scanner.remaining = (sendNext s).scanner.remaining := by
  rw [sendNext, sendNext, hremaining]
  exact nextPoll_congr hplan hmotion hproc _

/-- What sending the next poll leaves of the scanner. -/
theorem sendNext_scanner (s : State) :
    (sendNext s).scanner.heads = s.scanner.heads ∧ (sendNext s).scanner.records = s.scanner.records ∧
      (sendNext s).scanner.manifoldHead = s.scanner.manifoldHead ∧
      (sendNext s).scanner.manifold = s.scanner.manifold :=
  nextPoll_scanner _ s

/-! ## A reply of the manifold head (R26, R36) -/

/-- A reply of the manifold head as it is delivered to the monitor. -/
def manifoldDelivery (r : HeadReply) (now : Nat) : Delivery :=
  { c := min 1000 r.c, o := min 250 r.o, methaneFault := r.faults.methane, oxygenFault := r.faults.oxygen, time := now }

/-- The state whose scanner has taken a reply of the manifold head, the poll no longer outstanding. -/
def manifoldRecorded (r : HeadReply) (s : State) : State :=
  { s with
    scanner :=
      { s.scanner with
        poll := none
        manifoldHead := freshHead
        manifold := s.scanner.manifold.take s.elapsed (r.clamp .manifold) } }

theorem fieldFrame_of_manifold {s : State} {p : Poll} {bytes : List Byte} {r : HeadReply} (hp : s.scanner.poll = some p)
    (hhead : p.head = .manifold) (hr : replyTo .manifold bytes = some r) :
    fieldFrame bytes s = sendNext (deliver (manifoldDelivery r s.elapsed) (manifoldRecorded r s)) := by
  simp only [fieldFrame, hp, hhead, hr]
  rfl

/-- R36: the manifold's record by the flags of the reply. -/
theorem manifold_take_eq (now : Nat) (r : HeadReply) (m : ManifoldRecord) :
    m.take now (r.clamp .manifold) =
      { methane := if r.faults.methane = false then some { value := min 1000 r.c, time := now } else m.methane
        oxygen := if r.faults.oxygen = false then some { value := min 250 r.o, time := now } else m.oxygen
        flow := if r.faults.flow = false then some { value := min 1200000 r.q, time := now } else m.flow
        pressure := some { value := min 20000 r.pressure, time := now }
        faults :=
          some
            { methane := r.faults.methane, oxygen := r.faults.oxygen, flow := r.faults.flow, valve := false } } := by
  simp only [ManifoldRecord.take, HeadReply.clamp, renew, HeadAddr.maxFlow, Bool.not_eq_eq_eq_not, Bool.not_true]

/-- Settles O34: the record, then the alarm, the watch and the band, each by its own lemma. -/
theorem manifoldDeliveryLaw : Obligations.ManifoldDelivery := by
  intro s p bytes r hp hhead hr c o good out k g low now
  refine ⟨_, congrArg Host.Outcome.next (fieldFrame_of_manifold hp hhead hr), ?_⟩
  have hout : readingOut (manifoldRecorded r s).gas.limits (manifoldDelivery r s.elapsed) = true ↔ out := readingOut_iff _ _
  have hin : readingOut (manifoldRecorded r s).gas.limits (manifoldDelivery r s.elapsed) = false ↔ ¬out := by
    rw [← hout, Bool.not_eq_true]
  have hgood : ((manifoldDelivery r s.elapsed).methaneFault || (manifoldDelivery r s.elapsed).oxygenFault) = false ↔ good :=
    Bool.or_eq_false_iff
  have hlow : ((manifoldDelivery r s.elapsed).methaneFault || gasBand ≤ (manifoldDelivery r s.elapsed).c) = false ↔ low := by
    rw [Bool.or_eq_false_iff, decide_eq_false_iff_not, Nat.not_le]
    rfl
  obtain ⟨halarm, houtCount, hinCount, hlinks, hrequests, hlimits, hslots, hzones⟩ :=
    deliver_alarm (manifoldDelivery r s.elapsed) (manifoldRecorded r s)
  obtain ⟨hwatch, href⟩ := deliver_watch (manifoldDelivery r s.elapsed) (manifoldRecorded r s)
  obtain ⟨hband, hwait⟩ := deliver_band (manifoldDelivery r s.elapsed) (manifoldRecorded r s)
  obtain ⟨hlim, hslot, hzone, -⟩ :=
    alarmTakes_leaves (readingOut (manifoldRecorded r s).gas.limits (manifoldDelivery r s.elapsed)) (manifoldRecorded r s)
  obtain ⟨hpoll, hremaining⟩ := sendNext_congr (s := s) (t := deliver (manifoldDelivery r s.elapsed) (manifoldRecorded r s))
    (by simp [manifoldRecorded]) (by simp [manifoldRecorded]) (by simp [manifoldRecorded]) (by simp [manifoldRecorded])
  obtain ⟨hheads, hrecords, hmhead, hmanifold⟩ :=
    sendNext_scanner (deliver (manifoldDelivery r s.elapsed) (manifoldRecorded r s))
  simp only [sendNext_gas, sendNext_links, sendNext_rounds, sendNext_plan, sendNext_motion, sendNext_trips, sendNext_proc,
    sendNext_store, sendNext_elapsed, hpoll, hremaining, hheads, hrecords, hmhead, hmanifold, deliver_scanner, deliver_plan,
    deliver_motion, deliver_trips, deliver_proc, deliver_store, deliver_elapsed, halarm, houtCount, hinCount, hlinks,
    hrequests, hlimits, hslots, hzones, hwatch, href, hband, hwait]
  refine ⟨rfl, manifold_take_eq _ _ _, trivial, trivial, rfl, fun ha ho => ?clearIn, fun ha ho hfew => ?clearCount,
    fun ha ho hmany => ?raises, fun a ha ho => ?raisedOut, fun a ha ho hfew => ?raisedCount, fun a ha ho hmany => ?clears,
    fun h => ?watched, fun h => ?unwatched, fun h => ?noBand, fun h hnone => ?bandFirst, fun h hone => ?bandSecond,
    hlim, hslot, hzone, rfl, rfl, rfl, rfl, rfl, rfl, rfl⟩
  case clearIn =>
    rw [hin.2 ho, alarmTakes_in_of_clear (s := manifoldRecorded r s) ha]
    exact ⟨ha, rfl, rfl, rfl, rfl⟩
  case clearCount =>
    rw [hout.2 ho, alarmTakes_out_of_clear (s := manifoldRecorded r s) ha hfew]
    exact ⟨ha, rfl, rfl, rfl⟩
  case raises =>
    rw [hout.2 ho, alarmTakes_raises (s := manifoldRecorded r s) ha hmany]
    exact ⟨rfl, rfl, rfl, rfl, rfl⟩
  case raisedOut =>
    rw [hout.2 ho, alarmTakes_out_of_raised (s := manifoldRecorded r s) ha]
    exact ⟨ha, rfl, rfl, rfl⟩
  case raisedCount =>
    rw [hin.2 ho, alarmTakes_in_of_raised (s := manifoldRecorded r s) ha hfew]
    exact ⟨ha, rfl, rfl, rfl⟩
  case clears =>
    rw [hin.2 ho, alarmTakes_clears (s := manifoldRecorded r s) ha hmany]
    exact ⟨rfl, rfl, rfl, rfl, rfl⟩
  case watched =>
    rw [hgood.2 h]
    exact ⟨rfl, rfl⟩
  case unwatched =>
    rw [Bool.eq_true_of_not_eq_false (mt hgood.1 h)]
    exact ⟨rfl, rfl⟩
  case noBand =>
    rw [Bool.eq_true_of_not_eq_false (mt hlow.1 h)]
    exact ⟨rfl, rfl⟩
  case bandFirst =>
    rw [hlow.2 h]
    exact ⟨if_pos hnone, if_pos hnone⟩
  case bandSecond =>
    rw [hlow.2 h]
    exact ⟨if_neg hone, if_neg hone⟩

/-! ## The manifold watch (R104) -/

theorem watchExpired_iff (s : State) :
    watchExpired s = true ↔ s.gas.watch = .armed ∧ s.gas.watchRef + 60 ≤ s.elapsed := by
  rw [watchExpired, Bool.and_eq_true, beq_iff_eq, decide_eq_true_iff]

theorem execManifoldWatchExpiry_of_due {s : State} (h : watchExpired s = true) :
    execManifoldWatchExpiry s =
      .next (if s.gas.alarm.isRaised then spendWatch s else raiseAlarm .noManifold (spendWatch s)) := by
  rw [execManifoldWatchExpiry, if_pos h]
  exact (apply_ite Host.Outcome.next _ _ _).symm

/-- Settles O35: the expiry that is due by the state of the alarm, and the rows that do not take place. -/
theorem manifoldWatchExpiry : Obligations.ManifoldWatchExpiry := by
  refine fun s => ⟨fun harmed hdue => ?due, fun h => ?notDue⟩
  case due =>
    rw [exec, execManifoldWatchExpiry_of_due ((watchExpired_iff s).2 ⟨harmed, hdue⟩)]
    refine ⟨fun hclear => ?_, fun hraised => ?_⟩
    · rw [hclear]
      rfl
    · rw [if_pos hraised]
      rfl
  case notDue =>
    refine if_neg (mt (watchExpired_iff s).1 fun ⟨harmed, hdue⟩ => ?_)
    rcases h with hspent | hearly
    · rw [hspent] at harmed
      cases harmed
    · omega

/-! ## The override key (R88, R108) -/

/-- The roster after a key release: every locked MANUAL slot is AUTO again (R88). -/
def freedRoster (s : State) : Table 60 Roster :=
  Table.tabulate fun i =>
    if inManual s i && locked s i then { s.plan.roster.get i with mode := .auto } else s.plan.roster.get i

theorem keyRelease_eq (s : State) :
    keyRelease s =
      issueAll
        (urgentClose (fun i => inManual s i && locked s i) { s with plan := { s.plan with roster := freedRoster s } }) :=
  rfl

theorem execKeyDebounceExpiry_of_differs {s : State} (h : s.gas.keySwitchClosed ≠ s.gas.keyActive) :
    execKeyDebounceExpiry s = .next (if s.gas.keySwitchClosed then followKey s else keyRelease (followKey s)) := by
  rw [execKeyDebounceExpiry, if_neg (mt beq_iff_eq.1 h)]
  exact (apply_ite Host.Outcome.next _ _ _).symm

theorem followKey_of_switch {s : State} {b : Bool} (h : s.gas.keySwitchClosed = b) :
    followKey s = { s with gas := { s.gas with keyActive := b } } := by
  rw [followKey, h]

/-- Settles O36: the switch, the debounce that does not run, and the line that follows it either way. -/
theorem overrideKey : Obligations.OverrideKey := by
  refine fun s => ⟨fun _ => rfl, fun h => ?same, fun hclosed hline => ?active, fun hopen hline => ?released⟩
  case same => exact if_pos (beq_iff_eq.2 h)
  case active =>
    rw [exec, execKeyDebounceExpiry_of_differs (by rw [hclosed, hline]; decide), if_pos hclosed, followKey_of_switch hclosed]
  case released =>
    intro freed
    refine ⟨freedRoster s, fun i => Table.get_tabulate _ i, ?_⟩
    rw [exec, execKeyDebounceExpiry_of_differs (by rw [hopen, hline]; decide), if_neg (Bool.eq_false_iff.1 hopen),
      followKey_of_switch hopen, keyRelease_eq]
    rfl

end Sys2Proof.Machine
end

section
/-! PROOFS. The Trip and Window Unit: trip lines, the drainage clock, and the quiet windows at a minute rollover
(chapter 6). -/

namespace Sys2Proof.Machine

/-! ## Trip lines (R112, R113, R115) -/

section Debounce

variable {j : LineIdx} {s : State}

theorem execTripDebounceExpiry_of_armed (h : (s.trips.lines.get j).contactClosed ≠ (s.trips.lines.get j).inputActive)
    (hclosed : (s.trips.lines.get j).contactClosed = true) (harmed : (s.trips.lines.get j).state = .armed) :
    execTripDebounceExpiry j s = .next (latchLine j (followContact j s)) := by
  simp only [execTripDebounceExpiry]
  rw [if_neg (mt beq_iff_eq.1 h), if_pos (Bool.and_eq_true_iff.2 ⟨hclosed, beq_iff_eq.2 harmed⟩)]
  rfl

theorem execTripDebounceExpiry_of_unlatched
    (h : (s.trips.lines.get j).contactClosed ≠ (s.trips.lines.get j).inputActive)
    (hno : ¬((s.trips.lines.get j).contactClosed = true ∧ (s.trips.lines.get j).state = .armed)) :
    execTripDebounceExpiry j s = .next (followContact j s) := by
  simp only [execTripDebounceExpiry]
  rw [if_neg (mt beq_iff_eq.1 h), if_neg]
  · rfl
  · rwa [Bool.and_eq_true, beq_iff_eq]

end Debounce

theorem followContact_of_contact {j : LineIdx} {s : State} {b : Bool} (h : (s.trips.lines.get j).contactClosed = b) :
    followContact j s = setLine j { s.trips.lines.get j with inputActive := b } s := by
  rw [followContact, h]

theorem Table.set_set {n : Nat} {α : Type} (t : Table n α) (i : Fin n) (a b : α) : (t.set i a).set i b = t.set i b := by
  ext k
  rw [Table.get_set, Table.get_set, Table.get_set]
  split <;> rfl

/-- R113: a line that latches closes the slots whose zone names it. -/
theorem latchLine_eq (j : LineIdx) (s : State) :
    latchLine j s =
      raise .tripLatched
        (issueAll
          (urgentClose (fun i => lifecycleOf s i != .vacant && (zoneRecordAt s i).tripLine == some j)
            (setLine j { s.trips.lines.get j with state := .latched } s))) :=
  rfl

/-- R115 spelled out. -/
theorem tripped_iff (s : State) (i : SlotIdx) :
    tripped s i = true ↔
      ∃ j : LineIdx, (s.plan.active.zones.get (zoneAt s i)).tripLine = some j ∧
        (s.trips.lines.get j).state = .latched := by
  simp only [tripped, trippingLine, zoneRecordAt, Option.isSome_iff_exists, Option.filter_eq_some_iff, beq_iff_eq]

/-- Settles O37: the contact, the debounce by what it finds, and R115. -/
theorem tripLines : Obligations.TripLines := by
  refine ⟨fun s j => ?debounce, tripped_iff⟩
  intro ln withLine
  refine ⟨fun _ => rfl, fun h => ?same, fun hopen hin => ?inactive, fun hclosed hin harmed => ?active,
    fun hclosed hin harmed => ?latched⟩
  case same => exact if_pos (beq_iff_eq.2 h)
  case inactive =>
    refine (execTripDebounceExpiry_of_unlatched (by rw [hopen, hin]; decide) fun h => ?_).trans
      (congrArg Host.Outcome.next (followContact_of_contact hopen))
    rw [hopen] at h
    cases h.1
  case active =>
    exact (execTripDebounceExpiry_of_unlatched (by rw [hclosed, hin]; decide) fun h => harmed h.2).trans
      (congrArg Host.Outcome.next (followContact_of_contact hclosed))
  case latched =>
    have hline : setLine j { (followContact j s).trips.lines.get j with state := .latched } (followContact j s) =
        withLine { state := .latched, contactClosed := true, inputActive := true } := by
      rw [followContact_of_contact hclosed]
      simp only [setLine, Table.get_set_self, Table.set_set, withLine, show (s.trips.lines.get j).contactClosed = true from hclosed]
    refine (execTripDebounceExpiry_of_armed (by rw [hclosed, hin]; decide) hclosed harmed).trans ?_
    rw [latchLine_eq, hline]
    rfl

/-! ## The drainage clock (R117, R118) -/

/-! ### The carries of the clock -/

section Carries

variable {c : Clock}

theorem Clock.advance_second (h : c.second < 59) : c.advance = { c with second := c.second + 1 } := by
  rw [Clock.advance, if_pos h]

theorem Clock.advance_minute (h : c.second = 59) (hm : c.minute < 59) :
    c.advance = { c with minute := c.minute + 1, second := 0 } := by
  rw [Clock.advance, if_neg (by omega), if_pos hm]

theorem Clock.advance_hour (h : c.second = 59) (hm : c.minute = 59) (hh : c.hour < 23) :
    c.advance = { c with hour := c.hour + 1, minute := 0, second := 0 } := by
  rw [Clock.advance, if_neg (by omega), if_neg (by omega), if_pos hh]

theorem Clock.advance_day (h : c.second = 59) (hm : c.minute = 59) (hh : c.hour = 23) :
    c.advance = { weekday := if c.weekday < 7 then c.weekday + 1 else 1, hour := 0, minute := 0, second := 0 } := by
  rw [Clock.advance, if_neg (by omega), if_neg (by omega), if_neg (by omega)]

end Carries

/-- What is due after an advance from second 59. -/
theorem dueAfterTick_of_minuteEnd {trips : TripUnit} (h : trips.clock.second = 59) :
    dueAfterTick trips =
      if trips.unset then trips.rolloversDue else trips.rolloversDue ++ [trips.clock.advance] := by
  rw [dueAfterTick, Clock.atMinuteEnd, h]
  cases trips.unset <;> rfl

theorem dueAfterTick_of_second {trips : TripUnit} (h : trips.clock.second < 59) :
    dueAfterTick trips = trips.rolloversDue := by
  rw [dueAfterTick, Clock.atMinuteEnd, beq_false_of_ne (by omega)]
  rfl

/-- An advance from second 59, by the clock it gives. -/
theorem tick_of_minuteEnd {s : State} {d : Clock} (h : s.trips.clock.second = 59) (hd : s.trips.clock.advance = d) :
    tick s =
      { s with
        elapsed := s.elapsed + 1
        trips :=
          { s.trips with
            clock := d
            rolloversDue := if s.trips.unset then s.trips.rolloversDue else s.trips.rolloversDue ++ [d] } } := by
  rw [tick, dueAfterTick_of_minuteEnd h, hd]

/-- Set Clock by the ranges of its values (R118). -/
theorem setClock_of_inRange {p : Payload} (h : (clockSent p).inRange = true) (s : State) :
    setClock p s =
      ({ s with trips := { s.trips with clock := clockSent p, unset := false, rolloversDue := [] } },
        accepted false (clockSent p).bytes) :=
  if_pos h

theorem setClock_of_not_inRange {p : Payload} (h : ¬(clockSent p).inRange = true) (s : State) :
    setClock p s = (s, refusal .badValue) :=
  if_neg h

/-- Settles O39: the advance by its carries, and Set Clock by its ranges. -/
theorem drainageClock : Obligations.DrainageClock := by
  refine ⟨fun s => ?advance, fun l p s ha => ?setClock⟩
  case advance =>
    intro c ticked rolled hrange
    refine ⟨fun h => ?second, fun h hm => congrArg Host.Outcome.next (tick_of_minuteEnd h (Clock.advance_minute h hm)),
      fun h hm hh => congrArg Host.Outcome.next (tick_of_minuteEnd h (Clock.advance_hour h hm hh)),
      fun h hm hh hw => ?day, fun h hm hh hw => ?week⟩
    case second =>
      refine congrArg Host.Outcome.next (?_ : tick s = _)
      rw [tick, dueAfterTick_of_second h, Clock.advance_second h]
    case day => exact congrArg Host.Outcome.next (tick_of_minuteEnd h ((Clock.advance_day h hm hh).trans (by rw [if_pos hw])))
    case week =>
      refine congrArg Host.Outcome.next (tick_of_minuteEnd h ((Clock.advance_day h hm hh).trans ?_))
      rw [if_neg (Nat.not_lt.2 (le_of_eq hw.symm))]
  case setClock =>
    intro c ok
    refine ⟨fun h => ?good, fun h => ?bad⟩
    case good =>
      exact exec_of_owner (c := .setClock)
        { s with trips := { s.trips with clock := clockSent p, unset := false, rolloversDue := [] } }
        (accepted false (clockSent p).bytes) ha (setClock_of_inRange ((Clock.inRange_iff _).2 h) (discarded l s))
    case bad =>
      exact exec_of_refusal (c := .setClock) ha (setClock_of_not_inRange (mt (Clock.inRange_iff _).1 h) (discarded l s))

/-! ## A minute rollover (R121 to R123) -/

/-- R121: when an entry matches a rollover. -/
theorem WindowEntry.matchesTime_iff (e : WindowEntry) (c : Clock) :
    e.matchesTime c = true ↔
      e.enabled = true ∧ e.minute = c.minute ∧ (e.hour = none ∨ e.hour = some c.hour) ∧
        (e.weekday = none ∨ e.weekday = some c.weekday) := by
  have hany : ∀ (v : Option Nat) (n : Nat), v.all (· == n) = true ↔ v = none ∨ v = some n := by
    intro v n
    cases v <;> simp
  simp only [WindowEntry.matchesTime, Bool.and_eq_true, beq_iff_eq, hany, and_assoc]

section Rolls

variable {c : Clock} {w : Window}

theorem Window.roll_of_match (h : w.entry.matchesTime c = true) :
    w.roll c = { w with remaining := some w.entry.duration } := by
  rw [Window.roll, if_pos h]

theorem Window.roll_of_active {m : Nat} (h : ¬w.entry.matchesTime c = true) (hm : w.remaining = some m) (hlong : 1 < m) :
    w.roll c = { w with remaining := some (m - 1) } := by
  rw [Window.roll, if_neg h, hm, Option.bind_some, if_neg (Nat.not_le.2 hlong)]

theorem Window.roll_of_last {m : Nat} (h : ¬w.entry.matchesTime c = true) (hm : w.remaining = some m) (hlast : m ≤ 1) :
    w.roll c = { w with remaining := none } := by
  rw [Window.roll, if_neg h, hm, Option.bind_some, if_pos hlast]

theorem Window.roll_of_idle (h : ¬w.entry.matchesTime c = true) (hm : w.remaining = none) : w.roll c = w := by
  rw [Window.roll, if_neg h, hm, Option.bind_none, ← hm]

theorem Window.opens_iff (c : Clock) (w : Window) :
    w.opens c = true ↔ w.entry.matchesTime c = true ∧ w.remaining = none := by
  rw [Window.opens, Bool.and_eq_true, Option.isNone_iff_eq_none]
  by_cases h : w.entry.matchesTime c = true
  · rw [Window.roll_of_match h]
    simp [h]
  · simp only [h, false_and, Bool.false_eq_true, iff_false, not_and]
    intro hnone
    rw [Window.roll_of_idle h hnone, hnone]
    decide

theorem Window.ends_iff (c : Clock) (w : Window) :
    w.ends c = true ↔ ¬w.entry.matchesTime c = true ∧ ∃ m, w.remaining = some m ∧ m ≤ 1 := by
  rw [Window.ends, Bool.and_eq_true, Option.isSome_iff_exists, Option.isNone_iff_eq_none]
  by_cases h : w.entry.matchesTime c = true
  · rw [Window.roll_of_match h]
    simp [h]
  · refine ⟨fun ⟨⟨m, hm⟩, hnone⟩ => ⟨h, m, hm, ?_⟩, fun ⟨_, m, hm, hlast⟩ => ⟨⟨m, hm⟩, ?_⟩⟩
    · by_contra hlong
      rw [Window.roll_of_active h hm (Nat.not_le.1 hlong)] at hnone
      cases hnone
    · rw [Window.roll_of_last h hm hlast]

end Rolls

theorem indices_nonempty_iff (ws : Table 8 Window) (p : Window → Bool) :
    (!(ws.indices p).isEmpty) = true ↔ ∃ w, p (ws.get w) = true := by
  simp only [Bool.not_eq_true', List.isEmpty_eq_false_iff_exists_mem, Table.mem_indices]

/-- What the completion of a rollover makes of the links, the ceilings and the rounds (R122). -/
theorem completeRollover_eqs (opened ended : Bool) (s : State) :
    (completeRollover opened ended s).links = (if opened || ended then noticedLinks .windowChange s else s.links) ∧
      (completeRollover opened ended s).trips =
        { s.trips with
          ceilings :=
            if opened || ended then Table.tabulate (quietCeiling s.trips.windows) else s.trips.ceilings } ∧
      (completeRollover opened ended s).rounds =
        if opened then { s.rounds with requests := s.rounds.requests + 1 } else s.rounds := by
  cases opened <;> cases ended <;> exact ⟨rfl, rfl, rfl⟩

/-- The table of windows taken through a rollover. -/
def rolledWindows (c : Clock) (s : State) : Table 8 Window := s.trips.windows.map (Window.roll c)

/-- What a rollover that is due makes of the links, the trip unit and the rounds. -/
theorem takeRollover_eqs (c : Clock) (rest : List Clock) (s : State) :
    (takeRollover c rest s).links =
        (if opensAny c s.trips.windows || endsAny c s.trips.windows then noticedLinks .windowChange s else s.links) ∧
      (takeRollover c rest s).trips =
        { s.trips with
          windows := rolledWindows c s
          rolloversDue := rest
          ceilings :=
            if opensAny c s.trips.windows || endsAny c s.trips.windows then
              Table.tabulate (quietCeiling (rolledWindows c s))
            else s.trips.ceilings } ∧
      (takeRollover c rest s).rounds =
        if opensAny c s.trips.windows then { s.rounds with requests := s.rounds.requests + 1 } else s.rounds :=
  completeRollover_eqs _ _ _

theorem takeRollover_frame (c : Clock) (rest : List Clock) (s : State) :
    { takeRollover c rest s with links := s.links, rounds := s.rounds, trips := s.trips } = s := by
  have hframe : (takeRollover c rest s).elapsed = s.elapsed ∧ (takeRollover c rest s).plan = s.plan ∧
      (takeRollover c rest s).scanner = s.scanner ∧ (takeRollover c rest s).motion = s.motion ∧
      (takeRollover c rest s).gas = s.gas ∧ (takeRollover c rest s).proc = s.proc ∧
      (takeRollover c rest s).store = s.store ∧ (takeRollover c rest s).pending = s.pending := by
    simp [takeRollover, rollWindows]
  obtain ⟨helapsed, hplan, hscanner, hmotion, hgas, hproc, hstore, hpending⟩ := hframe
  exact State.eq_of_blocks helapsed rfl hplan hscanner rfl hmotion hgas rfl hproc hstore hpending

/-- R123: a zone's quiet ceiling is the lowest among the active occurrences that name it. -/
theorem mem_activeCeilings_iff (ws : Table 8 Window) (k : ZoneIdx) (c : Nat) :
    c ∈ activeCeilings ws k ↔
      ∃ w, ((ws.get w).remaining.isSome = true ∧ (ws.get w).entry.zones.getLsbD k.val = true) ∧
        (ws.get w).entry.ceiling = c := by
  simp only [activeCeilings, List.mem_map, Table.mem_indices, Bool.and_eq_true]

/-- Settles O41: the rollover at the front taken entry by entry, its completion by what it opens and ends, and
R123. -/
theorem minuteRollover : Obligations.MinuteRollover := by
  refine ⟨fun s => ⟨fun hdue => ?idle, fun c rest hdue => ?due⟩, fun ws k => ?ceiling⟩
  case idle => rw [exec, execMinuteRollover, hdue]
  case due =>
    intro hits opens ends
    have hopens : opensAny c s.trips.windows = true ↔ ∃ w, opens w := by
      rw [opensAny, indices_nonempty_iff]
      exact exists_congr fun w => (Window.opens_iff c _).trans (and_congr_left' (WindowEntry.matchesTime_iff _ c))
    have hends : endsAny c s.trips.windows = true ↔ ∃ w, ends w := by
      rw [endsAny, indices_nonempty_iff]
      exact exists_congr fun w =>
        (Window.ends_iff c _).trans (and_congr_left' (not_congr (WindowEntry.matchesTime_iff _ c)))
    have hboth : (opensAny c s.trips.windows || endsAny c s.trips.windows) = true ↔ ∃ w, opens w ∨ ends w := by
      rw [Bool.or_eq_true, hopens, hends, exists_or]
    obtain ⟨hlinks, htrips, hrounds⟩ := takeRollover_eqs c rest s
    refine ⟨takeRollover c rest s, by rw [exec, execMinuteRollover, hdue]; rfl, fun w => ?entry, fun h => ?changed,
      fun h => ?unchanged, fun h => ?opened, fun h => ?unopened, ?_, ?_, ?_, ?_, takeRollover_frame c rest s⟩
    case entry =>
      intro v
      have hroll : (takeRollover c rest s).trips.windows.get w = v.roll c := by
        rw [htrips]
        exact Table.get_map _ _ w
      have hmatch := WindowEntry.matchesTime_iff v.entry c
      rw [hroll]
      exact ⟨fun h => Window.roll_of_match (hmatch.2 h), fun h =>
        ⟨fun m => Window.roll_of_active (mt hmatch.1 h), fun m => Window.roll_of_last (mt hmatch.1 h),
          Window.roll_of_idle (mt hmatch.1 h)⟩⟩
    case changed =>
      rw [hlinks, htrips, if_pos (hboth.2 h), if_pos (hboth.2 h)]
      exact ⟨rfl, rfl⟩
    case unchanged =>
      rw [hlinks, htrips, if_neg (mt hboth.1 h), if_neg (mt hboth.1 h)]
      exact ⟨rfl, rfl⟩
    case opened => rw [hrounds, if_pos (hopens.2 h)]
    case unopened => rw [hrounds, if_neg (mt hopens.1 h)]
    all_goals rw [htrips]
  case ceiling =>
    intro names
    refine ⟨?_, fun c => ?_⟩
    · rw [quietCeiling, List.min?_eq_none_iff, activeCeilings, List.map_eq_nil_iff, List.eq_nil_iff_forall_not_mem]
      simp only [Table.mem_indices, Bool.and_eq_true]
      rfl
    · rw [quietCeiling, List.min?_eq_some_iff, mem_activeCeilings_iff]
      refine and_congr_right fun _ => ?_
      simp only [mem_activeCeilings_iff]
      exact ⟨fun h w hw => h _ ⟨w, hw, rfl⟩, fun h b ⟨w, hw, hb⟩ => hb ▸ h w hw⟩

end Sys2Proof.Machine
end

section
/-! PROOFS. The stored image: its 1371 bytes, and that reading them gives the image back (sections 9.1, 10.7). -/

namespace Sys2Proof.Machine

theorem Table.tabulate_get {n : Nat} {α : Type} (t : Table n α) : (Table.tabulate fun i => t.get i) = t :=
  Table.ext fun i => Table.get_tabulate _ i

/-! ## Fields at offsets -/

/-- The `m` bytes at an offset. -/
def slice (bs : List Byte) (a m : Nat) : List Byte := (bs.drop a).take m

/-- A number inside a field is read at its offset from the field's start. -/
theorem numAt_slice {bs : List Byte} {a m o n : Nat} (h : o + n ≤ m) : numAt (slice bs a m) o n = numAt bs (a + o) n := by
  rw [numAt, numAt, slice, List.drop_take, List.drop_drop, List.take_take, min_eq_left (by omega)]

/-- Bytes that stand whole at an offset. -/
def StandsAt (bs : List Byte) (a : Nat) (ys : List Byte) : Prop := ∃ xs zs, bs = xs ++ ys ++ zs ∧ xs.length = a

theorem StandsAt.whole (bs : List Byte) : StandsAt bs 0 bs := ⟨[], [], by simp, rfl⟩

theorem StandsAt.left {bs ys zs : List Byte} {a : Nat} (h : StandsAt bs a (ys ++ zs)) : StandsAt bs a ys := by
  obtain ⟨us, vs, hbs, hlen⟩ := h
  exact ⟨us, zs ++ vs, by simp [hbs], hlen⟩

theorem StandsAt.right {bs ys zs : List Byte} {a n : Nat} (h : StandsAt bs a (ys ++ zs)) (hn : a + ys.length = n) :
    StandsAt bs n zs := by
  obtain ⟨us, vs, hbs, hlen⟩ := h
  exact ⟨us ++ ys, vs, by simp [hbs], by rw [List.length_append, hlen, hn]⟩

/-- A field of bytes that stand at an offset. -/
theorem StandsAt.slice_eq {bs ys : List Byte} {a k m : Nat} (h : StandsAt bs a ys) (hk : k + m ≤ ys.length) :
    slice bs (a + k) m = slice ys k m := by
  obtain ⟨us, vs, rfl, rfl⟩ := h
  rw [slice, List.append_assoc, List.drop_append, List.drop_of_length_le (by omega), Nat.add_sub_cancel_left,
    List.nil_append, List.drop_append_of_le_length (by omega), List.take_append_of_le_length (by rw [List.length_drop]; omega),
    slice]

theorem StandsAt.numAt_eq {bs ys : List Byte} {a k n : Nat} (h : StandsAt bs a ys) (hk : k + n ≤ ys.length) :
    numAt bs (a + k) n = numAt ys k n :=
  congrArg leNat (h.slice_eq hk)

/-- The record of an index among records of one size. -/
theorem slice_flatMap {α : Type} {f : α → List Byte} {m : Nat} (xs : List α) (hsize : ∀ x ∈ xs, (f x).length = m)
    {k : Nat} (hk : k < xs.length) : slice (xs.flatMap f) (m * k) m = f xs[k] := by
  induction xs generalizing k with
  | nil => cases hk
  | cons x xs ih =>
    have hx := hsize x List.mem_cons_self
    cases k with
    | zero =>
      rw [slice, List.flatMap_cons, Nat.mul_zero, List.drop_zero, List.take_append_of_le_length (le_of_eq hx.symm),
        List.take_of_length_le (le_of_eq hx)]
      rfl
    | succ k =>
      have hdrop : (f x ++ xs.flatMap f).drop (m * (k + 1)) = (xs.flatMap f).drop (m * k) := by
        rw [List.drop_append, List.drop_of_length_le (by rw [hx, Nat.mul_succ]; omega), hx, List.nil_append, Nat.mul_succ,
          Nat.add_sub_cancel]
      rw [slice, List.flatMap_cons, hdrop]
      exact ih (fun y hy => hsize y (List.mem_cons_of_mem _ hy)) (Nat.lt_of_succ_lt_succ hk)

theorem slice_table {n : Nat} {α : Type} {f : α → List Byte} {m : Nat} (t : Table n α) (hsize : ∀ i, (f (t.get i)).length = m)
    (i : Fin n) : slice (t.cells.flatMap f) (m * i.val) m = f (t.get i) := by
  refine slice_flatMap t.cells (fun x hx => ?_) _
  obtain ⟨k, hk, rfl⟩ := List.getElem_of_mem hx
  exact hsize ⟨k, t.size ▸ hk⟩

/-! ## Numbers at the head of bytes -/

theorem numAt_cons (b : Byte) (bs : List Byte) (k n : Nat) : numAt (b :: bs) (k + 1) n = numAt bs k n := rfl

theorem numAt_byte {n : Nat} (bs : List Byte) (h : n < 256) : numAt (byteOf n :: bs) 0 1 = n := by
  rw [numAt, List.drop_zero, List.take_succ_cons, List.take_zero, leNat, leNat, byteOf_toNat_of_lt h]
  rfl

theorem numAt_leBytes {k n : Nat} (bs : List Byte) (h : n < 256 ^ k) : numAt (leBytes k n ++ bs) 0 k = n := by
  rw [numAt, List.drop_zero, List.take_append_of_le_length (le_of_eq (length_leBytes k n).symm),
    List.take_of_length_le (le_of_eq (length_leBytes k n)), leNat_leBytes k h]

/-- An absent value reads back as absent, and a value below all bits set as itself. -/
theorem optOf_leOpt {v : Option Nat} (bs : List Byte) (h : ∀ n, v = some n → n < 65535) :
    optOf 0xFFFF (numAt (leOpt 2 v ++ bs) 0 2) = v := by
  cases v with
  | none => rfl
  | some n =>
    have hn := h n rfl
    rw [leOpt, numAt_leBytes bs (by omega), optOf, if_neg (by omega)]

theorem optOf_anyByte {v : Option Nat} (bs : List Byte) (h : ∀ n, v = some n → n < 255) :
    optOf 0xFF (numAt (anyByte v :: bs) 0 1) = v := by
  cases v with
  | none => rfl
  | some n =>
    have hn := h n rfl
    rw [anyByte, Option.map_some, Option.getD_some, numAt_byte bs (by omega), optOf, if_neg (by omega)]

/-! ## The records read back (R169) -/

theorem readZoneRecord_slice (bs : List Byte) (a : Nat) : readZoneRecord (slice bs a 4) 0 = readZoneRecord bs a := by
  simp only [readZoneRecord, Nat.zero_add, numAt_slice (m := 4) (o := 0) (n := 1) (by decide),
    numAt_slice (m := 4) (o := 1) (n := 1) (by decide), numAt_slice (m := 4) (o := 2) (n := 1) (by decide),
    numAt_slice (m := 4) (o := 3) (n := 1) (by decide), Nat.add_zero]

theorem readZoneRecord_bytes {z : ZoneRecord} (h : z.inRange = true) : readZoneRecord z.bytes 0 = z := by
  obtain ⟨last, ramp, stepping, line⟩ := z
  simp only [ZoneRecord.inRange, Bool.and_eq_true, within_iff] at h
  obtain ⟨⟨-, hlast⟩, -, hramp⟩ := h
  have hline : ∀ t : Option LineIdx, indexOf 4 (numAt [byteOf (lineNum t)] 0 1) = t := by decide
  simp only [readZoneRecord, ZoneRecord.bytes, Nat.zero_add, numAt_cons, hline, numAt_byte _ (Nat.lt_succ_of_le hlast),
    numAt_byte _ (show ramp < 256 by omega)]
  cases stepping <;> rfl

theorem readSlotEntry_slice (bs : List Byte) (a : Nat) : readSlotEntry (slice bs a 18) 0 = readSlotEntry bs a := by
  have htag : ∀ n, ((slice bs a 18).drop 6).take (min 12 n) = (bs.drop (a + 6)).take (min 12 n) := by
    intro n
    rw [slice, List.drop_take, List.drop_drop, List.take_take, min_eq_left (by omega)]
  simp only [readSlotEntry, Nat.zero_add, htag, numAt_slice (m := 18) (o := 0) (n := 1) (by decide),
    numAt_slice (m := 18) (o := 1) (n := 1) (by decide), numAt_slice (m := 18) (o := 2) (n := 1) (by decide),
    numAt_slice (m := 18) (o := 3) (n := 2) (by decide), numAt_slice (m := 18) (o := 5) (n := 1) (by decide), Nat.add_zero]

theorem drop_leOpt (k : Nat) (v : Option Nat) (bs : List Byte) (n : Nat) : (leOpt k v ++ bs).drop (k + n) = bs.drop n := by
  rw [List.drop_append, List.drop_of_length_le (by rw [size_leOpt]; omega), size_leOpt, Nat.add_sub_cancel_left,
    List.nil_append]

theorem readSlotEntry_bytes {e : SlotEntry} (h : e.inRange = true) : readSlotEntry e.bytes 0 = e := by
  obtain ⟨priority, uMax, uMin, tag, limit⟩ := e
  simp only [SlotEntry.inRange, Bool.and_eq_true, within_iff, tagOk, decide_eq_true_eq] at h
  obtain ⟨⟨⟨⟨⟨-, hpriority⟩, -, hmax⟩, -, hmin⟩, htag, -⟩, hlimit⟩ := h
  have hlimit' : ∀ n, limit = some n → n < 65535 := by
    rintro n rfl
    rw [Option.all_some, within_iff] at hlimit
    omega
  have hlen : numAt (leOpt 2 limit ++ byteOf tag.length :: tagBytes tag) 2 1 = tag.length := by
    rw [numAt, drop_leOpt 2 limit _ 0]
    exact numAt_byte _ (by omega)
  have hdrop : (leOpt 2 limit ++ byteOf tag.length :: tagBytes tag).drop 3 = tagBytes tag := drop_leOpt 2 limit _ 1
  have htake : (tagBytes tag).take tag.length = tag := List.take_left
  simp only [readSlotEntry, SlotEntry.bytes, Nat.zero_add, List.cons_append, List.nil_append, numAt_cons,
    List.drop_succ_cons, numAt_byte _ (show priority < 256 by omega), numAt_byte _ (show uMax < 256 by omega),
    numAt_byte _ (show uMin < 256 by omega), optOf_leOpt _ hlimit', hlen, hdrop, min_eq_right htag, htake]

theorem readLife_slice (bs : List Byte) (a : Nat) : readLife (slice bs a 3) 0 = readLife bs a := by
  simp only [readLife, Nat.zero_add, numAt_slice (m := 3) (o := 0) (n := 1) (by decide),
    numAt_slice (m := 3) (o := 1) (n := 2) (by decide), Nat.add_zero]

theorem readLife_bytes {x : Lifecycle × Option Nat} (h : lifeInRange x = true) : readLife (lifeBytes x) 0 = x := by
  obtain ⟨life, yield⟩ := x
  have hyield : ∀ n, yield = some n → n < 65535 := by
    rintro n rfl
    simp only [lifeInRange, Bool.and_eq_true, within_iff] at h
    omega
  have hopt := optOf_leOpt [] hyield
  rw [List.append_nil] at hopt
  simp only [readLife, lifeBytes, Nat.zero_add, numAt_cons, hopt]
  cases life <;> rfl

theorem readWindowEntry_slice (bs : List Byte) (a : Nat) : readWindowEntry (slice bs a 8) 0 = readWindowEntry bs a := by
  simp only [readWindowEntry, Nat.zero_add, numAt_slice (m := 8) (o := 0) (n := 1) (by decide),
    numAt_slice (m := 8) (o := 1) (n := 1) (by decide), numAt_slice (m := 8) (o := 2) (n := 1) (by decide),
    numAt_slice (m := 8) (o := 3) (n := 1) (by decide), numAt_slice (m := 8) (o := 4) (n := 1) (by decide),
    numAt_slice (m := 8) (o := 5) (n := 2) (by decide), numAt_slice (m := 8) (o := 7) (n := 1) (by decide), Nat.add_zero]

theorem readWindowEntry_bytes {e : WindowEntry} (h : e.inRange = true) : readWindowEntry e.bytes 0 = e := by
  obtain ⟨enabled, weekday, hour, minute, duration, zones, ceiling⟩ := e
  simp only [WindowEntry.inRange, Bool.and_eq_true, within_iff] at h
  obtain ⟨⟨⟨⟨hday, hhour⟩, -, hminute⟩, -, hduration⟩, -, hceiling⟩ := h
  have hday' : ∀ n, weekday = some n → n < 255 := by
    rintro n rfl
    rw [Option.all_some, within_iff] at hday
    omega
  have hhour' : ∀ n, hour = some n → n < 255 := by
    rintro n rfl
    rw [Option.all_some, within_iff] at hhour
    omega
  have hzones : zones.toNat < 256 ^ 2 := by have := zones.isLt; omega
  have hceil : numAt (leBytes 2 zones.toNat ++ [byteOf ceiling]) 2 1 = ceiling := numAt_byte [] (show ceiling < 256 by omega)
  have henabled : ∀ bs, (numAt (flagByte enabled :: bs) 0 1 == 1) = enabled := by
    intro bs
    cases enabled <;> rfl
  simp only [readWindowEntry, WindowEntry.bytes, Nat.zero_add, List.cons_append, List.nil_append, numAt_cons,
    henabled, optOf_anyByte _ hday', optOf_anyByte _ hhour', numAt_byte _ (show minute < 256 by omega),
    numAt_byte _ (show duration < 256 by omega), numAt_leBytes _ hzones, hceil, BitVec.ofNat_toNat, BitVec.setWidth_eq]

/-! ## The image (R162, R169) -/

section Image

variable {img : Image}

/-- The sizes of the six parts of an image within its ranges. -/
theorem image_sizes (h : img.inRange = true) :
    img.plan.paramBytes.length = 4 ∧ (img.plan.zones.cells.flatMap ZoneRecord.bytes).length = 40 ∧
      (img.plan.entries.cells.flatMap SlotEntry.bytes).length = 1080 ∧ (img.slots.cells.flatMap lifeBytes).length = 180 ∧
      (img.mode.byte :: leBytes 2 img.period).length = 3 ∧ (img.windows.cells.flatMap WindowEntry.bytes).length = 64 := by
  obtain ⟨hplan, -⟩ := (Image.inRange_iff img).1 h
  refine ⟨size_paramBytes _, ?_, ?_, ?_, by rw [List.length_cons, size_leBytes], ?_⟩
  · rw [length_flatMap_of_size _ fun z _ => size_zoneRecord z, img.plan.zones.size]
  · have hsize : ∀ e ∈ img.plan.entries.cells, e.bytes.length = 18 := by
      intro e he
      obtain ⟨k, hk, rfl⟩ := List.getElem_of_mem he
      exact size_slotEntry (Plan.tag_le hplan ⟨k, img.plan.entries.size ▸ hk⟩)
    rw [length_flatMap_of_size _ hsize, img.plan.entries.size]
  · have hsize : ∀ x ∈ img.slots.cells, (lifeBytes x).length = 3 := fun x _ => by
      rw [lifeBytes, List.length_cons, size_leOpt]
    rw [length_flatMap_of_size _ hsize, img.slots.size]
  · rw [length_flatMap_of_size _ fun e _ => size_windowEntry e, img.windows.size]

theorem length_image (h : img.inRange = true) : img.bytes.length = 1371 := by
  obtain ⟨hparam, hzones, hentries, hslots, hmode, hwindows⟩ := image_sizes h
  simp only [Image.bytes, List.length_append, hparam, hzones, hentries, hslots, hmode, hwindows]

/-- The six parts of an image at the offsets of R169. -/
theorem image_parts (h : img.inRange = true) :
    StandsAt img.bytes 0 img.plan.paramBytes ∧ StandsAt img.bytes 4 (img.plan.zones.cells.flatMap ZoneRecord.bytes) ∧
      StandsAt img.bytes 44 (img.plan.entries.cells.flatMap SlotEntry.bytes) ∧
      StandsAt img.bytes 1124 (img.slots.cells.flatMap lifeBytes) ∧
      StandsAt img.bytes 1304 (img.mode.byte :: leBytes 2 img.period) ∧
      StandsAt img.bytes 1307 (img.windows.cells.flatMap WindowEntry.bytes) := by
  obtain ⟨hparam, hzones, hentries, hslots, hmode, -⟩ := image_sizes h
  have hwindows := StandsAt.whole img.bytes
  rw [Image.bytes] at hwindows
  exact ⟨hwindows.left.left.left.left.left, hwindows.left.left.left.left.right (by rw [hparam]),
    hwindows.left.left.left.right (by rw [List.length_append, hparam, hzones]),
    hwindows.left.left.right (by simp only [List.length_append, hparam, hzones, hentries]),
    hwindows.left.right (by simp only [List.length_append, hparam, hzones, hentries, hslots]),
    hwindows.right (by simp only [List.length_append, hparam, hzones, hentries, hslots, hmode])⟩

theorem readImage_plan (h : img.inRange = true) : (readImage img.bytes).plan = img.plan := by
  obtain ⟨hparam, hzones, hentries, -⟩ := image_sizes h
  obtain ⟨hparams, hzoneTable, hentryTable, -⟩ := image_parts h
  obtain ⟨hplan, -⟩ := (Image.inRange_iff img).1 h
  obtain ⟨hz, hs, ht, hzonesIn, hentriesIn⟩ := (Plan.inRange_iff _).1 hplan
  rw [within_iff] at hz hs ht
  have hcount : numAt img.bytes 0 1 = img.plan.zoneCount :=
    (hparams.numAt_eq (k := 0) (by rw [hparam]; decide)).trans (numAt_byte _ (by omega))
  have hstale : numAt img.bytes 1 2 = img.plan.staleLimit :=
    (hparams.numAt_eq (k := 1) (by rw [hparam]; decide)).trans (numAt_leBytes _ (by omega))
  have htravel : numAt img.bytes 3 1 = img.plan.travelTimeout :=
    (hparams.numAt_eq (k := 3) (by rw [hparam])).trans (numAt_byte [] (by omega))
  have hzone : ∀ k, readZoneRecord img.bytes (4 + 4 * k.val) = img.plan.zones.get k := by
    intro k
    rw [← readZoneRecord_slice, hzoneTable.slice_eq (by rw [hzones]; omega), slice_table _ (fun _ => size_zoneRecord _),
      readZoneRecord_bytes (hzonesIn k)]
  have hentry : ∀ i, readSlotEntry img.bytes (44 + 18 * i.val) = img.plan.entries.get i := by
    intro i
    rw [← readSlotEntry_slice, hentryTable.slice_eq (by rw [hentries]; omega),
      slice_table _ (fun j => size_slotEntry (Plan.tag_le hplan j)), readSlotEntry_bytes (hentriesIn i)]
  rw [readImage, hcount, hstale, htravel, funext hzone, funext hentry, Table.tabulate_get, Table.tabulate_get]

theorem readImage_slots (h : img.inRange = true) : (readImage img.bytes).slots = img.slots := by
  obtain ⟨-, -, -, hsize, -⟩ := image_sizes h
  obtain ⟨-, -, -, hslots, -⟩ := image_parts h
  obtain ⟨-, -, hlives, -⟩ := (Image.inRange_iff img).1 h
  refine Table.ext fun i => (Table.get_tabulate _ i).trans ?_
  rw [← readLife_slice, hslots.slice_eq (by rw [hsize]; omega),
    slice_table _ (fun j => by rw [lifeBytes, List.length_cons, size_leOpt]), readLife_bytes (hlives i)]

theorem readImage_windows (h : img.inRange = true) : (readImage img.bytes).windows = img.windows := by
  obtain ⟨-, -, -, -, -, hsize⟩ := image_sizes h
  obtain ⟨-, -, -, -, -, hwindows⟩ := image_parts h
  obtain ⟨-, -, -, -, hentries⟩ := (Image.inRange_iff img).1 h
  refine Table.ext fun w => (Table.get_tabulate _ w).trans ?_
  rw [← readWindowEntry_slice, hwindows.slice_eq (by rw [hsize]; omega), slice_table _ (fun _ => size_windowEntry _),
    readWindowEntry_bytes (hentries w)]

theorem readImage_rounds (h : img.inRange = true) :
    (readImage img.bytes).mode = img.mode ∧ (readImage img.bytes).period = img.period := by
  obtain ⟨-, -, -, -, hsize, -⟩ := image_sizes h
  obtain ⟨-, -, -, -, hrounds, -⟩ := image_parts h
  obtain ⟨-, -, -, hperiod, -⟩ := (Image.inRange_iff img).1 h
  rw [within_iff] at hperiod
  have hmode : numAt img.bytes 1304 1 = img.mode.byte.toNat :=
    (hrounds.numAt_eq (k := 0) (by rw [hsize]; decide)).trans (by cases img.mode <;> rfl)
  constructor
  · rw [readImage, hmode]
    cases img.mode <;> rfl
  · have hbytes := numAt_leBytes (k := 2) [] (show img.period < 256 ^ 2 by omega)
    rw [List.append_nil] at hbytes
    exact (hrounds.numAt_eq (k := 1) (by rw [hsize])).trans hbytes

/-- Every image within its ranges is read back from its bytes. -/
theorem readImage_bytes (h : img.inRange = true) : readImage img.bytes = img := by
  have hplan := readImage_plan h
  have hslots := readImage_slots h
  have hwindows := readImage_windows h
  obtain ⟨hmode, hperiod⟩ := readImage_rounds h
  generalize readImage img.bytes = m at hplan hslots hmode hperiod hwindows
  cases m
  cases img
  cases hplan; cases hslots; cases hmode; cases hperiod; cases hwindows
  rfl

theorem decodeImage_bytes (h : img.inRange = true) : decodeImage img.bytes = some img := by
  rw [decodeImage, readImage_bytes h]
  exact if_pos (Bool.and_eq_true_iff.2 ⟨beq_self_eq_true _, h⟩)

/-- R164: what bytes decode to. -/
theorem decodeImage_eq_some_iff {bs : List Byte} : decodeImage bs = some img ↔ img.inRange = true ∧ bs = img.bytes := by
  refine ⟨fun h => ?_, fun ⟨hrange, hbs⟩ => hbs ▸ decodeImage_bytes hrange⟩
  simp only [decodeImage] at h
  split at h
  next hok =>
    cases h
    obtain ⟨hbytes, hrange⟩ := Bool.and_eq_true_iff.1 hok
    exact ⟨hrange, (beq_iff_eq.1 hbytes).symm⟩
  · cases h

end Image

/-- Settles O52: the six parts at their offsets, each read back by its own record. -/
theorem imageRoundTrip : Obligations.ImageRoundTrip :=
  fun _ h => ⟨length_image h, decodeImage_bytes h⟩

end Sys2Proof.Machine
end

section
/-! PROOFS. The Plan Store's write, the state after reset, and the invariants there (chapter 9). -/

namespace Sys2Proof.Machine

/-! ## The store write (R161 to R163) -/

theorem storePlan_of_idle {s : State} (h : s.store.state = .idle) :
    storePlan s = (beginWrite s, accepted false [1#8]) := by
  rw [storePlan, h]

theorem storePlan_of_writing {s : State} {img : Image} {crc : Word32} {e : Nat} (h : s.store.state = .writing img crc e) :
    storePlan s = (s, refusal .storeBusy) := by
  rw [storePlan, h]

theorem execStoreWriteEnd_of_due {s : State} {img : Image} {crc : Word32} {e : Nat} (readBack : List Byte)
    (h : s.store.state = .writing img crc e) (hdue : e ≤ s.elapsed) :
    execStoreWriteEnd readBack s = .next (endWrite crc readBack s) := by
  rw [execStoreWriteEnd, h]
  exact if_pos hdue

theorem execStoreWriteEnd_of_early {s : State} {img : Image} {crc : Word32} {e : Nat} (readBack : List Byte)
    (h : s.store.state = .writing img crc e) (hearly : s.elapsed < e) : execStoreWriteEnd readBack s = .next s := by
  rw [execStoreWriteEnd, h]
  exact if_neg (Nat.not_le.2 hearly)

/-- The end of a write by its verification (R163). -/
theorem endWrite_eq (crc : Word32) (readBack : List Byte) (s : State) (ok : Bool) (h : (crc32 readBack == crc) = ok) :
    endWrite crc readBack s =
      { s with
        store :=
          { stored := { contents := readBack, crcBytes := leBytes 4 crc.toNat, markedValid := ok }, state := .idle }
        links := noticedLinks (if ok then .storeDone else .storeFailed) s } := by
  simp only [endWrite, h]
  rfl

/-- Settles O51: Store Plan by the store's state, and the write end by its time and the comparison. -/
theorem storeWrite : Obligations.StoreWrite := by
  refine ⟨fun l p s ha => ?request, fun s img crc e readBack h => ⟨fun hdue => ⟨fun hsame => ?done, fun hdiffers => ?failed⟩,
    execStoreWriteEnd_of_early readBack h⟩⟩
  case request =>
    intro image
    exact ⟨fun h => exec_of_owner (c := .storePlan) (beginWrite s) (accepted false [1#8]) ha
        (storePlan_of_idle (s := discarded l s) h),
      fun _ _ _ h => exec_of_refusal (c := .storePlan) ha (storePlan_of_writing (s := discarded l s) h)⟩
  case done =>
    exact (execStoreWriteEnd_of_due readBack h hdue).trans
      (congrArg Host.Outcome.next (endWrite_eq crc readBack s true (beq_iff_eq.2 hsame)))
  case failed =>
    exact (execStoreWriteEnd_of_due readBack h hdue).trans
      (congrArg Host.Outcome.next (endWrite_eq crc readBack s false (beq_false_of_ne hdiffers)))

/-! ## What a reset leaves (R164, R165) -/

/-- R164: the image that is loaded is the one stored, marked valid with its CRC-32, within its ranges. -/
theorem loadImage_eq_some_iff (st : StoredImage) (img : Image) :
    loadImage st = some img ↔
      st.markedValid = true ∧ st.crcBytes = leBytes 4 (crc32 st.contents).toNat ∧ img.inRange = true ∧
        st.contents = img.bytes := by
  rw [loadImage]
  split
  next hok =>
    obtain ⟨hmark, hcrc⟩ := Bool.and_eq_true_iff.1 hok
    rw [decodeImage_eq_some_iff]
    exact ⟨fun h => ⟨hmark, (beq_iff_eq.1 hcrc).symm, h⟩, fun ⟨_, _, h⟩ => h⟩
  next hno =>
    refine ⟨fun h => (by cases h), fun ⟨hmark, hcrc, _⟩ => (hno ?_).elim⟩
    rw [hmark, hcrc, beq_self_eq_true]
    rfl

theorem resetLink_eq (lost : Bool) :
    resetLink lost =
      { receiver := .hunting, request := none, sent := [], notices := if lost then 0x0003#16 else 0x0001#16,
        mask := 0x01D3#16, attention := true } := by
  cases lost <;> decide

theorem resetPart_links_get (s : State) (l : Link) :
    (resetPart s).links.get l = resetLink (loadImage s.store.stored).isNone := by
  cases l <;> rfl

/-- The entry into STARTUP closes every valve in service and leaves the others at rest. -/
theorem valveOf_resetPart (s : State) (i : SlotIdx) :
    valveOf (resetPart s) i =
      { target := 0, commanded := 0, reported := none,
        state := if inService (resetPart s) i then .moving 0 else .atRest } := by
  have hloaded : valveOf (loadedPart (loadImage s.store.stored) s) i = restedValve := Table.get_fill _ i
  have hlife : lifecycleOf (loadedPart (loadImage s.store.stored) s) i = lifecycleOf (resetPart s) i := rfl
  refine (valveOf_closeManifold (loadedPart (loadImage s.store.stored) s) i).trans ?_
  rw [hloaded, hlife, inService]
  cases lifecycleOf (resetPart s) i <;> rfl

/-- The scanner holds a head and an empty record of every slot in service. -/
theorem resetPart_heads (s : State) (i : SlotIdx) :
    (resetPart s).scanner.heads.get i = (if inService (resetPart s) i then some freshHead else none) ∧
      (resetPart s).scanner.records.get i = if inService (resetPart s) i then some emptyRecord else none := by
  simp only [resetPart, startCycle, sendPoll, closeManifold_scanner, loadedPart, Table.get_map]
  exact ⟨rfl, rfl⟩

theorem resetPart_trips (s : State) :
    (∀ j, (resetPart s).trips.lines.get j =
        { state := .armed, contactClosed := (s.trips.lines.get j).contactClosed, inputActive := false }) ∧
      ∀ w, ((resetPart s).trips.windows.get w).remaining = none :=
  ⟨fun j => Table.get_map _ _ j,
    fun w => (loadedTrips_windows (img := loadImage s.store.stored) (fun _ h => loadImage_inRange h) s.trips w).2⟩

theorem loadedRounds_nextExpiry (img : Option Image) :
    (loadedRounds img).nextExpiry = if (loadedRounds img).mode = .cycling then some (loadedRounds img).period else none := by
  cases img with
  | none => rfl
  | some img =>
    obtain ⟨plan, slots, mode, period, windows⟩ := img
    cases mode <;> rfl

theorem loadedPlan_some_roster (img : Image) (i : SlotIdx) :
    (loadedPlan (some img)).roster.get i =
      { lifecycle := (img.slots.get i).1, mode := .auto, yieldEst := (img.slots.get i).2,
        commissioned := if (img.slots.get i).1.inService then some 0 else none } :=
  Table.get_map _ _ i

theorem loadedTrips_some_entry (img : Image) (trips : TripUnit) (w : WindowIdx) :
    ((loadedTrips (some img) trips).windows.get w).entry = img.windows.get w :=
  congrArg Window.entry (Table.get_map _ _ w)

/-- Settles O53: the blocks that do not depend on the load one by one, then the load by what is stored. -/
theorem resetLeaves : Obligations.ResetLeaves := by
  refine ⟨fun s => ?blocks, fun s => ?load⟩
  case blocks =>
    intro lost
    obtain ⟨hlines, hidle⟩ := resetPart_trips s
    refine ⟨resetPart s, rfl, rfl, rfl, fun l => ?links, ⟨rfl, rfl, rfl, rfl, rfl, fun i => Table.get_fill _ i, rfl, rfl, rfl,
      loadedRounds_nextExpiry _⟩, valveOf_resetPart s, fun k => Table.get_fill _ k, rfl, hlines, rfl, rfl, rfl, hidle,
      fun k => Table.get_fill _ k, rfl, rfl, rfl, rfl, rfl, rfl, resetPart_heads s⟩
    case links =>
      rw [resetPart_links_get, resetLink_eq]
      simp only [lost, Option.isNone_iff_eq_none]
  case load =>
    intro stored valid
    have hload := loadImage_eq_some_iff stored
    have hnone : loadImage stored = none ↔ ∀ img, ¬valid img := by
      rw [Option.eq_none_iff_forall_ne_some]
      exact forall_congr' fun img => not_congr (hload img)
    refine ⟨resetPart s, rfl, hnone, rfl, rfl, fun img h => ?loaded, fun h => ?defaults⟩
    case loaded =>
      have himg : loadImage s.store.stored = some img := (hload img).2 h
      rw [resetPart, himg]
      exact ⟨rfl, rfl, rfl, loadedTrips_some_entry img s.trips, loadedPlan_some_roster img⟩
    case defaults =>
      have himg : loadImage s.store.stored = none := hnone.2 h
      rw [resetPart, himg]
      exact ⟨rfl, rfl, rfl, fun w => Table.get_fill _ w, fun i => Table.get_fill _ i⟩

/-! ## The invariants after reset -/

/-- The reset state is what a reset makes of it: nothing is stored, so the defaults are taken. -/
theorem resetPart_reset : resetPart State.reset = State.reset := by decide +kernel

theorem motionLaw_resetPart (s : State) : MotionLaw (resetPart s) := by
  rw [motionLaw_iff]
  exact MotionLawful.of_proc (s := closeManifold (loadedPart (loadImage s.store.stored) s)) (motionLawful_closeManifold _)
    rfl rfl rfl

theorem closedLaw_resetPart (s : State) : ClosedLaw (resetPart s) :=
  (closedLaw_iff _).2 fun _ => shut_closeManifold (loadedPart (loadImage s.store.stored) s)

theorem roundsInRange_resetPart (s : State) : RoundsInRange (resetPart s) :=
  roundsInRange_loadedRounds (img := loadImage s.store.stored)
    (fun m hm => ((Image.inRange_iff m).1 (loadImage_inRange hm)).2.2.2.1) rfl

theorem tripsLaw_resetPart (s : State) : TripsLaw (resetPart s) :=
  tripsLaw_loadedTrips (img := loadImage s.store.stored) (trips := s.trips) (fun _ hm => loadImage_inRange hm) rfl

theorem timesPast_resetPart (s : State) : TimesPast (resetPart s) :=
  (timesPast_iff _).2 ⟨stampsPast_resetPart s, measurePast_of_none rfl, movesPast_resetPart s⟩

/-- Settles O54: the reset state is a state after a reset, and each invariant holds after any reset. -/
theorem invariantsHoldAtReset : Obligations.InvariantsHoldAtReset := by
  rw [Obligations.InvariantsHoldAtReset, ← resetPart_reset]
  exact ⟨linesFollow_resetPart _, gasInRange_resetPart _, plansInRange_resetPart _, rosterLaw_resetPart _,
    scannerLaw_resetPart _, motionLaw_resetPart _, closedLaw_resetPart _, roundsInRange_resetPart _, tripsLaw_resetPart _,
    (procedureLaw_iff _).2 (procLawful_resetPart _), (storeLaw_iff _).2 (storeLawful_of_idle rfl), timesPast_resetPart _⟩

end Sys2Proof.Machine
end

section
/-! PROOFS. The gathering of a build-up test: fitness, Begin Test and Add Test Slot (sections 7.2, 7.3). -/

namespace Sys2Proof.Machine

/-! ## Fitness (R127) -/

theorem hasReadings_iff (s : State) (i : SlotIdx) :
    hasReadings s i = true ↔
      ∃ c o q, readingOf s (·.methane) i = some c ∧ readingOf s (·.oxygen) i = some o ∧
        readingOf s (·.flow) i = some q := by
  simp only [hasReadings, Bool.and_eq_true, Option.isSome_iff_exists]
  exact ⟨fun ⟨⟨⟨c, hc⟩, o, ho⟩, q, hq⟩ => ⟨c, o, q, hc, ho, hq⟩,
    fun ⟨c, o, q, hc, ho, hq⟩ => ⟨⟨⟨c, hc⟩, o, ho⟩, q, hq⟩⟩

theorem Standing.fitForTest_iff (x : Standing) :
    x.fitForTest = true ↔
      x ≠ .absent ∧ x ≠ .fixed ∧ x ≠ .closed .retiring ∧ x ≠ .closed .stale ∧ x ≠ .closed .noReading := by
  cases x with
  | closed reason => cases reason <;> decide
  | absent | fixed | ranked => decide

theorem recordFit_iff (s : State) (i : SlotIdx) :
    ((recordEntry s i).any fun e => e.standing.fitForTest) = true ↔
      ∃ (r : AllocRecord) (e : AllocEntry), s.rounds.record = some r ∧ r.entries.get i = some e ∧
        e.standing ≠ .absent ∧ e.standing ≠ .fixed ∧ e.standing ≠ .closed .retiring ∧
        e.standing ≠ .closed .stale ∧ e.standing ≠ .closed .noReading := by
  simp only [recordEntry, Option.any_eq_true, Option.bind_eq_some_iff, Standing.fitForTest_iff]
  exact ⟨fun ⟨e, ⟨r, hr, he⟩, hfit⟩ => ⟨r, e, hr, he, hfit⟩, fun ⟨r, e, hr, he, hfit⟩ => ⟨e, ⟨r, hr, he⟩, hfit⟩⟩

/-- R127 spelled out. -/
theorem fit_iff (s : State) (i : SlotIdx) :
    fit s i = true ↔
      lifecycleOf s i = .active ∧ inManual s i = false ∧ locked s i = false ∧ tripped s i = false ∧
        ((valveOf s i).isStuck = false ∧ headResponding s i = true) ∧
        (∃ c o q, readingOf s (·.methane) i = some c ∧ readingOf s (·.oxygen) i = some o ∧
          readingOf s (·.flow) i = some q) ∧
        ∃ (r : AllocRecord) (e : AllocEntry), s.rounds.record = some r ∧ r.entries.get i = some e ∧
          e.standing ≠ .absent ∧ e.standing ≠ .fixed ∧ e.standing ≠ .closed .retiring ∧
          e.standing ≠ .closed .stale ∧ e.standing ≠ .closed .noReading := by
  rw [← hasReadings_iff, ← recordFit_iff]
  simp only [fit, Bool.and_eq_true, beq_iff_eq, Bool.not_eq_true', and_assoc]

/-! ## Begin Test (R128) -/

/-- The gathering of a test begun by one slot. -/
def gatheringBegun (i : SlotIdx) (d : Nat) (s : State) : State :=
  setProc
    { s.proc with
      state := .gathering
      testSet := [newPlace i]
      duration := some d
      gatherExpiry := some (s.elapsed + 20)
      errorFlag := false }
    s

theorem secondsLeft_ahead (s : State) (n : Nat) : secondsLeft s (some (s.elapsed + n)) = some n := by
  rw [secondsLeft, Option.map_some, Nat.add_sub_cancel_left]

theorem beginTestReply_eq (i : SlotIdx) (d : Nat) (s : State) :
    beginTestReply (gatheringBegun i d s) =
      [0x01#8, 0x01#8, byteOf (slotNum i)] ++ List.replicate 7 0x00#8 ++ leBytes 2 d ++ [0x14#8, 0x00#8] := by
  have hleft : secondsLeft (gatheringBegun i d s) (gatheringBegun i d s).proc.gatherExpiry = some 20 :=
    secondsLeft_ahead s 20
  rw [beginTestReply, hleft]
  rfl

section Requests

variable {p : Payload} {i : SlotIdx} {s : State}

theorem beginTest_of_busy (hi : slotOf (u8 p 0) = some i) (h : s.proc.state ≠ .idle) :
    beginTest p s = (s, refusal .procBusy) := by
  simp only [beginTest, hi, bne_iff_ne, ne_eq, h, not_false_eq_true, if_true]

theorem beginTest_of_unfit (hi : slotOf (u8 p 0) = some i) (h : s.proc.state = .idle) (hfit : fit s i = false) :
    beginTest p s = (s, refusal .slotUnfit) := by
  simp only [beginTest, hi, bne_iff_ne, ne_eq, h, not_true_eq_false, if_false, hfit, Bool.not_false, if_true]

theorem beginTest_of_fit (hi : slotOf (u8 p 0) = some i) (h : s.proc.state = .idle) (hfit : fit s i = true) :
    beginTest p s =
      (gatheringBegun i (max 60 (min 1800 (u16 p 1))) s,
        accepted (decide (max 60 (min 1800 (u16 p 1)) ≠ u16 p 1))
          ([0x01#8, 0x01#8, byteOf (slotNum i)] ++ List.replicate 7 0x00#8 ++
            leBytes 2 (max 60 (min 1800 (u16 p 1))) ++ [0x14#8, 0x00#8])) := by
  rw [← beginTestReply_eq i _ s, ← bne_eq_decide_ne]
  simp only [beginTest, hi, bne_iff_ne, ne_eq, h, not_true_eq_false, if_false, hfit, Bool.not_true, Bool.false_eq_true]
  rfl

/-! ## Add Test Slot (R129) -/

theorem addTestReply_eq (ts : List TestPlace) (s : State) :
    addTestReply (restartWindow ts s) = byteOf ts.length :: setSlots ts ++ [0x14#8, 0x00#8] := by
  have hleft : secondsLeft (restartWindow ts s) (restartWindow ts s).proc.gatherExpiry = some 20 := secondsLeft_ahead s 20
  rw [addTestReply, hleft]
  rfl

theorem addTestSlot_of_not_gathering (hi : slotOf (u8 p 0) = some i) (h : s.proc.state ≠ .gathering) :
    addTestSlot p s = (s, refusal .notGathering) := by
  simp only [addTestSlot, hi, bne_iff_ne, ne_eq, h, not_false_eq_true, if_true]

theorem addTestSlot_of_member (hi : slotOf (u8 p 0) = some i) (h : s.proc.state = .gathering)
    (hin : inTestSet s i = true) :
    addTestSlot p s =
      (restartWindow s.proc.testSet s,
        accepted false (byteOf s.proc.testSet.length :: setSlots s.proc.testSet ++ [0x14#8, 0x00#8])) := by
  simp only [addTestSlot, hi, bne_iff_ne, ne_eq, h, not_true_eq_false, if_false, hin, if_true, addTestReply_eq]

theorem addTestSlot_of_full (hi : slotOf (u8 p 0) = some i) (h : s.proc.state = .gathering)
    (hin : inTestSet s i = false) (hfull : 8 ≤ s.proc.testSet.length) : addTestSlot p s = (s, refusal .setFull) := by
  simp only [addTestSlot, hi, bne_iff_ne, ne_eq, h, not_true_eq_false, if_false, hin, Bool.false_eq_true, hfull, if_true]

theorem addTestSlot_of_unfit (hi : slotOf (u8 p 0) = some i) (h : s.proc.state = .gathering)
    (hin : inTestSet s i = false) (hroom : s.proc.testSet.length < 8) (hfit : fit s i = false) :
    addTestSlot p s = (s, refusal .slotUnfit) := by
  simp only [addTestSlot, hi, bne_iff_ne, ne_eq, h, not_true_eq_false, if_false, hin, Bool.false_eq_true,
    Nat.not_le.2 hroom, hfit, Bool.not_false, if_true]

theorem addTestSlot_of_fit (hi : slotOf (u8 p 0) = some i) (h : s.proc.state = .gathering)
    (hin : inTestSet s i = false) (hroom : s.proc.testSet.length < 8) (hfit : fit s i = true) :
    addTestSlot p s =
      (restartWindow (s.proc.testSet ++ [newPlace i]) s,
        accepted false
          (byteOf (s.proc.testSet ++ [newPlace i]).length :: setSlots (s.proc.testSet ++ [newPlace i]) ++
            [0x14#8, 0x00#8])) := by
  rw [← addTestReply_eq _ s]
  simp only [addTestSlot, hi, bne_iff_ne, ne_eq, h, not_true_eq_false, if_false, hin, Bool.false_eq_true,
    Nat.not_le.2 hroom, hfit, Bool.not_true]

end Requests

/-- Settles O42: the seven conditions, and the two requests in the order of their tests. -/
theorem gatheringATest : Obligations.GatheringATest := by
  refine ⟨fit_iff, fun l p s i ha hi => ?begin, fun l p s i ha hi => ?add⟩
  case begin =>
    intro d
    exact ⟨fun h => exec_of_refusal (c := .beginTest) ha (beginTest_of_busy hi (s := discarded l s) h),
      fun h hfit => exec_of_refusal (c := .beginTest) ha (beginTest_of_unfit hi (s := discarded l s) h hfit),
      fun h hfit => exec_of_owner (c := .beginTest) (gatheringBegun i d s) (accepted _ _) ha
        (beginTest_of_fit hi (s := discarded l s) h hfit)⟩
  case add =>
    intro refused taken
    exact ⟨fun h => exec_of_refusal (c := .addTestSlot) ha (addTestSlot_of_not_gathering hi (s := discarded l s) h),
      fun h hin => exec_of_owner (c := .addTestSlot) (restartWindow s.proc.testSet s) (accepted _ _) ha
        (addTestSlot_of_member hi (s := discarded l s) h hin),
      fun h hin hfull => exec_of_refusal (c := .addTestSlot) ha (addTestSlot_of_full hi (s := discarded l s) h hin hfull),
      fun h hin hroom hfit => exec_of_refusal (c := .addTestSlot) ha
        (addTestSlot_of_unfit hi (s := discarded l s) h hin hroom hfit),
      fun h hin hroom hfit => exec_of_owner (c := .addTestSlot) (restartWindow (s.proc.testSet ++ [newPlace i]) s)
        (accepted _ _) ha (addTestSlot_of_fit hi (s := discarded l s) h hin hroom hfit)⟩

end Sys2Proof.Machine
end

section
/-! PROOFS. The settling of a build-up test begins: the expiry of the gathering window and Resume Test (sections 7.3,
7.5). -/

namespace Sys2Proof.Machine

/-! ## The issue of entries leaves a slot without one -/

/-- A slot is in no queue. -/
def NotQueued (i : SlotIdx) (s : State) : Prop := ∀ k, ∀ e ∈ s.motion.queues.get k, e.slot ≠ i

theorem NotQueued.issueZone {s : State} {i : SlotIdx} (h : NotQueued i s) (k : ZoneIdx) : NotQueued i (issueZone k s) := by
  intro j e he
  by_cases hj : j = k
  · subst hj
    exact h j e ((issueZone_queue_sublist _ _).subset he)
  · rw [issueZone_queues_get_ne s k hj] at he
    exact h j e he

theorem issueFold_of_not_queued {i : SlotIdx} (ks : List ZoneIdx) {s : State} (h : NotQueued i s) :
    valveOf (ks.foldl (fun s k => issueZone k s) s) i = valveOf s i ∧
      NotQueued i (ks.foldl (fun s k => issueZone k s) s) := by
  induction ks generalizing s with
  | nil => exact ⟨rfl, h⟩
  | cons k ks ih =>
    obtain ⟨hvalve, hqueue⟩ := ih (h.issueZone k)
    exact ⟨hvalve.trans (valveOf_issueZone_of_not_queued s k (h k)), hqueue⟩

theorem valveOf_issueAll_of_not_queued {s : State} {i : SlotIdx} (h : NotQueued i s) :
    valveOf (issueAll s) i = valveOf s i :=
  (issueFold_of_not_queued allZones h).1

theorem NotQueued.issueAll {s : State} {i : SlotIdx} (h : NotQueued i s) : NotQueued i (issueAll s) :=
  (issueFold_of_not_queued allZones h).2

theorem notQueued_urgentClose {sel : SlotIdx → Bool} {i : SlotIdx} (s : State) (h : sel i = true) :
    NotQueued i (urgentClose sel s) := by
  rintro k e he rfl
  rw [urgentClose_queues_get, List.mem_filter, h] at he
  cases he.2

/-! ## The set settles (R130) -/

/-- The set slots that leave as the settling begins: those in service whose valve is STUCK. -/
def leavesAtOnce (s : State) (t : TestPlace) : Bool := (valveOf s t.slot).isStuck && inService s t.slot

/-- The procedure as the settling begins. -/
def settlingProc (s : State) : Procedure :=
  { s.proc with state := .settling, gatherExpiry := none }.leave (leavesAtOnce s) (bareResult .noSeal)

/-- A closed valve is STUCK when it was, and its slot is in service. -/
theorem Valve.isStuck_urgentClose (life : Lifecycle) (now : Nat) (v : Valve) :
    (v.urgentClose life now).isStuck = (v.isStuck && life.inService) := by
  rw [Valve.isStuck, Valve.urgentClose]
  cases life.inService <;> cases v.isStuck <;> rfl

theorem leave_congr {p : Procedure} {f g : TestPlace → Bool} (h : ∀ t ∈ p.testSet, f t = g t)
    (mk : TestPlace → ResultRecord) : p.leave f mk = p.leave g mk := by
  have hstay : (p.testSet.filter fun t => !f t) = p.testSet.filter fun t => !g t :=
    List.filter_congr fun t ht => by rw [h t ht]
  have hgone : p.testSet.filter f = p.testSet.filter g := List.filter_congr h
  have hany : p.testSet.any f = p.testSet.any g := by
    rw [Bool.eq_iff_iff, List.any_eq_true, List.any_eq_true]
    exact exists_congr fun t => and_congr_right fun ht => by rw [h t ht]
  rw [Procedure.leave, Procedure.leave, hstay, hgone, hany]

theorem settle_eq (s : State) :
    settle s = issueAll (finishIfEmpty (setProc (settlingProc s) (urgentClose (inTestSet s) s))) := by
  have hstuck : ∀ t ∈ s.proc.testSet, (valveOf (urgentClose (inTestSet s) s) t.slot).isStuck = leavesAtOnce s t := by
    intro t ht
    rw [valveOf_urgentClose, if_pos ((inTestSet_iff s t.slot).2 (List.mem_map_of_mem ht)), Valve.isStuck_urgentClose]
    rfl
  have hproc : { s.proc with state := .settling, gatherExpiry := none }.leave
      (fun t => (valveOf (urgentClose (inTestSet s) s) t.slot).isStuck) (bareResult .noSeal) = settlingProc s :=
    leave_congr (p := { s.proc with state := .settling, gatherExpiry := none }) hstuck _
  rw [← hproc]
  rfl

/-- What settling leaves in every block but the links, the valves and the procedure. -/
theorem settle_frame (s : State) : { settle s with links := s.links, motion := s.motion, proc := s.proc } = s := by
  have helapsed := settle_elapsed s
  have hplan := settle_plan s
  have hscanner := settle_scanner s
  have hrounds := settle_rounds s
  have hgas := settle_gas s
  have htrips := settle_trips s
  have hstore := settle_store s
  have hpending := settle_pending s
  generalize settle s = t at *
  exact State.eq_of_blocks helapsed rfl hplan hscanner hrounds rfl hgas htrips rfl hstore hpending

theorem settle_motion (s : State) : (settle s).motion = (issueAll (urgentClose (inTestSet s) s)).motion := by
  have hsame : SameIssues (urgentClose (inTestSet s) s)
      (finishIfEmpty (setProc (settlingProc s) (urgentClose (inTestSet s) s))) :=
    ⟨by simp, by simp, by simp, by simp [running]⟩
  rw [settle_eq]
  exact hsame.issueAll.motion

theorem settle_proc_links (s : State) :
    (settle s).proc = (finishIfEmpty (setProc (settlingProc s) (urgentClose (inTestSet s) s))).proc ∧
      (settle s).links = (finishIfEmpty (setProc (settlingProc s) (urgentClose (inTestSet s) s))).links := by
  rw [settle_eq, issueAll_proc, issueAll_links]
  exact ⟨rfl, rfl⟩

/-- The set is empty when every slot has left at once. -/
theorem settlingProc_isEmpty (s : State) :
    (settlingProc s).testSet.isEmpty = s.proc.testSet.all (leavesAtOnce s) := by
  rw [Bool.eq_iff_iff, List.isEmpty_iff, settlingProc, Procedure.leave, List.filter_eq_nil_iff, List.all_eq_true]
  simp only [Bool.not_eq_true', Bool.not_eq_false]

theorem finishIfEmpty_of_rest {s : State} (h : s.proc.testSet.isEmpty = false) : finishIfEmpty s = s :=
  if_neg (Bool.eq_false_iff.1 h)

theorem finishIfEmpty_of_empty {s : State} (h : s.proc.testSet.isEmpty = true) : finishIfEmpty s = finishProcedure s :=
  if_pos h

/-- The test settles with the slots that are left. -/
theorem settle_of_rest {s : State} (h : s.proc.testSet.all (leavesAtOnce s) = false) :
    (settle s).links = s.links ∧ (settle s).proc = settlingProc s := by
  obtain ⟨hproc, hlinks⟩ := settle_proc_links s
  have hfinish : finishIfEmpty (setProc (settlingProc s) (urgentClose (inTestSet s) s)) =
      setProc (settlingProc s) (urgentClose (inTestSet s) s) :=
    finishIfEmpty_of_rest ((settlingProc_isEmpty s).trans h)
  rw [hproc, hlinks, hfinish]
  exact ⟨rfl, rfl⟩

/-- The test ends when none is left. -/
theorem settle_of_none {s : State} (h : s.proc.testSet.all (leavesAtOnce s) = true) :
    (settle s).links = noticedLinks .procedureDone s ∧ (settle s).proc = (settlingProc s).finish := by
  obtain ⟨hproc, hlinks⟩ := settle_proc_links s
  have hfinish : finishIfEmpty (setProc (settlingProc s) (urgentClose (inTestSet s) s)) =
      finishProcedure (setProc (settlingProc s) (urgentClose (inTestSet s) s)) :=
    finishIfEmpty_of_empty ((settlingProc_isEmpty s).trans h)
  rw [hproc, hlinks, hfinish]
  exact ⟨rfl, rfl⟩

/-- A set slot's valve as the settling begins. -/
theorem valveOf_settle {s : State} {i : SlotIdx} (h : inTestSet s i = true) :
    valveOf (settle s) i = (valveOf s i).urgentClose (lifecycleOf s i) s.elapsed ∧ NotQueued i (settle s) := by
  have hqueue : NotQueued i (urgentClose (inTestSet s) s) := notQueued_urgentClose s h
  have hvalve := valveOf_issueAll_of_not_queued hqueue
  rw [valveOf_urgentClose, if_pos h] at hvalve
  have hafter := hqueue.issueAll
  rw [NotQueued, ← settle_motion] at hafter
  exact ⟨(congrArg (fun m : Motion => m.valves.get i) (settle_motion s)).trans hvalve, hafter⟩

/-! ## The frame taken before a request is decided -/

theorem finishIfEmpty_discarded (l : Link) (s : State) :
    finishIfEmpty (discarded l s) = discarded l (finishIfEmpty s) := by
  rw [finishIfEmpty, finishIfEmpty, discarded_proc]
  split
  · exact raise_discarded .procedureDone l (setProc s.proc.finish s)
  · rfl

theorem issueAll_discarded (l : Link) (s : State) : issueAll (discarded l s) = discarded l (issueAll s) := by
  have hsame : SameIssues s (discarded l s) := ⟨rfl, rfl, rfl, rfl⟩
  have hmotion := hsame.issueAll.motion
  have hlinks : (issueAll (discarded l s)).links = (discarded l (issueAll s)).links := by
    simp only [discarded, issueAll_links]
  refine State.eq_of_blocks ?_ hlinks ?_ ?_ ?_ (hmotion.trans (discarded_motion _ l).symm) ?_ ?_ ?_ ?_ ?_
  all_goals simp

theorem settle_discarded (l : Link) (s : State) : settle (discarded l s) = discarded l (settle s) := by
  rw [settle_eq, settle_eq, ← issueAll_discarded, ← finishIfEmpty_discarded]
  rfl

/-! ## The expiry of the window and Resume Test (R130, R136) -/

theorem reached_of_some {s : State} {v : Option Nat} {e : Nat} (h : v = some e) :
    reached s v = decide (e ≤ s.elapsed) := by
  rw [h]
  rfl

theorem execGatheringWindowExpiry_of_due {s : State} {e : Nat} (h : s.proc.state = .gathering)
    (he : s.proc.gatherExpiry = some e) (hdue : e ≤ s.elapsed) : execGatheringWindowExpiry s = .next (settle s) := by
  rw [execGatheringWindowExpiry, h, reached_of_some he, decide_eq_true hdue]
  rfl

theorem execGatheringWindowExpiry_of_early {s : State} {e : Nat} (he : s.proc.gatherExpiry = some e)
    (hearly : s.elapsed < e) : execGatheringWindowExpiry s = .next s := by
  rw [execGatheringWindowExpiry, reached_of_some he, decide_eq_false (Nat.not_le.2 hearly), Bool.and_false]
  rfl

theorem resumeTest_of_suspended {s : State} (h : s.proc.state = .suspended) :
    resumeTest s = (settle s, accepted false []) := by
  rw [resumeTest, h]

theorem resumeTest_of_purging {s : State} (h : s.proc.state = .suspendedPurging) :
    resumeTest s = (s, refusal .procBusy) := by
  rw [resumeTest, h]

theorem resumeTest_of_other {s : State} (h : s.proc.state ≠ .suspended) (hp : s.proc.state ≠ .suspendedPurging) :
    resumeTest s = (s, refusal .notSuspended) := by
  rw [resumeTest]
  split
  next hs => exact absurd hs h
  next hs => exact absurd hs hp
  all_goals rfl

/-- Settles O43: the settling by its blocks, then the rows that begin it. -/
theorem settlingBegins : Obligations.SettlingBegins := by
  intro s stuck results flag settled
  have hsettled : settled (settle s) := by
    refine ⟨settle_motion s, fun i hi => ?valve, settle_of_rest, settle_of_none, settle_frame s⟩
    case valve =>
      obtain ⟨hvalve, hqueue⟩ := valveOf_settle hi
      rw [hvalve]
      exact ⟨rfl, rfl, rfl, Valve.urgentClose_state_of_stuck s.elapsed, Valve.urgentClose_state_of_free s.elapsed,
        Valve.urgentClose_state_of_outOfService s.elapsed, hqueue⟩
  refine ⟨fun e h he hdue => ⟨settle s, execGatheringWindowExpiry_of_due h he hdue, hsettled⟩,
    fun e he hearly => execGatheringWindowExpiry_of_early he hearly, fun l p ha => ⟨fun h => ?resumed, fun h => ?busy,
      fun h hp => ?refused⟩⟩
  case resumed =>
    refine ⟨settle s, exec_of_owner (c := .resumeTest) (settle s) (accepted false []) ha ?_, hsettled⟩
    rw [← settle_discarded]
    exact resumeTest_of_suspended (s := discarded l s) h
  case busy => exact exec_of_refusal (c := .resumeTest) ha (resumeTest_of_purging (s := discarded l s) h)
  case refused => exact exec_of_refusal (c := .resumeTest) ha (resumeTest_of_other (s := discarded l s) h hp)

end Sys2Proof.Machine
end

section
/-! PROOFS. The ends of a measurement and of a purge, Abort Procedure and Suspend Test (sections 7.4 to 7.7). -/

namespace Sys2Proof.Machine

/-- A procedure ended with a results list: IDLE, ProcedureDone noticed. -/
def endedWith (results : List ResultRecord) (s : State) : State :=
  { s with
    proc :=
      { state := .idle, testSet := [], duration := none, gatherExpiry := none, measureStart := none,
        measureExpiry := none, purgeSlot := none, purgeExpiry := none, errorFlag := s.proc.errorFlag,
        results := results }
    links := noticedLinks .procedureDone s }

theorem finishProcedure_results (results : List ResultRecord) (s : State) :
    finishProcedure (setProc { s.proc with results := results } s) = endedWith results s :=
  rfl

/-! ## The ends of a measurement and of a purge (R134, R138) -/

/-- R134: the record of a completed measurement. -/
theorem completeRecord_eq {s : State} {d : Nat} (hd : s.proc.duration = some d) (t : TestPlace) :
    completeRecord s t =
      { slot := t.slot, outcome := .complete, startPressure := t.startPressure, endPressure := pressureOf s t.slot,
        seconds := d,
        riseRate := t.startPressure.bind fun a => (pressureOf s t.slot).map fun b => riseRate a b d } := by
  rw [completeRecord, hd]
  cases t.startPressure <;> cases pressureOf s t.slot <;> rfl

theorem execMeasuringExpiry_of_due {s : State} {e : Nat} (h : s.proc.state = .measuring)
    (he : s.proc.measureExpiry = some e) (hdue : e ≤ s.elapsed) : execMeasuringExpiry s = .next (completeTest s) := by
  rw [execMeasuringExpiry, h, reached_of_some he, decide_eq_true hdue]
  rfl

theorem execPurgeExpiry_of_due {s : State} {e : Nat} (h : s.proc.state = .purging ∨ s.proc.state = .suspendedPurging)
    (he : s.proc.purgeExpiry = some e) (hdue : e ≤ s.elapsed) : execPurgeExpiry s = .next (endPurge s) := by
  rw [execPurgeExpiry, reached_of_some he, decide_eq_true hdue]
  rcases h with h | h <;> rw [h] <;> rfl

theorem endPurge_of_purging {s : State} (h : s.proc.state = .purging) :
    endPurge s =
      { s with
        proc := { s.proc with state := .idle, purgeSlot := none, purgeExpiry := none }
        links := noticedLinks .procedureDone s } := by
  rw [endPurge, h]
  rfl

theorem endPurge_of_suspended {s : State} (h : s.proc.state = .suspendedPurging) :
    endPurge s =
      { s with
        proc := { s.proc with state := .suspended, purgeSlot := none, purgeExpiry := none }
        links := noticedLinks .procedureDone s } := by
  rw [endPurge, h]
  rfl

/-! ## Abort Procedure (R139) -/

section Abort

variable {s : State}

theorem abortProcedure_of_idle (h : s.proc.state = .idle) : abortProcedure s = (s, refusal .notRunning) := by
  rw [abortProcedure, h]
  rfl

theorem abortProcedure_of_closing (h : s.proc.state ≠ .idle) (hclosing : testClosing s = true) :
    abortProcedure s =
      (endedWith (appendFor (abortRecord s) s.proc.testSet s.proc.results) s, accepted false []) := by
  rw [abortProcedure, if_neg (mt beq_iff_eq.1 h), hclosing]
  rfl

theorem abortProcedure_of_other (h : s.proc.state ≠ .idle) (hclosing : testClosing s = false) :
    abortProcedure s = (endedWith s.proc.results s, accepted false []) := by
  rw [abortProcedure, if_neg (mt beq_iff_eq.1 h), hclosing]
  rfl

theorem abortRecord_of_settling (h : s.proc.state = .settling) : abortRecord s = bareResult .aborted := by
  funext t
  rw [abortRecord, h]
  rfl

theorem abortRecord_of_measuring {start : Nat} (h : s.proc.state = .measuring) (hstart : s.proc.measureStart = some start) :
    abortRecord s = fun t =>
      { slot := t.slot, outcome := .aborted, startPressure := t.startPressure, endPressure := pressureOf s t.slot,
        seconds := s.elapsed - start, riseRate := none } := by
  funext t
  rw [abortRecord, h, hstart]
  rfl

theorem endedWith_discarded (results : List ResultRecord) (l : Link) (s : State) :
    endedWith results (discarded l s) = discarded l (endedWith results s) :=
  raise_discarded .procedureDone l (setProc (endedWith results s).proc s)

theorem exec_abort_of_closing {l : Link} {p : Payload} {mk : TestPlace → ResultRecord} (ha : Admitted l .abortProcedure p s)
    (h : s.proc.state ≠ .idle) (hclosing : testClosing s = true) (hmk : abortRecord s = mk) :
    exec (.abortProcedure l p) s =
      .next (answered l 0x2B#8 .ok [] (endedWith (appendFor mk s.proc.testSet s.proc.results) s)) := by
  rw [← hmk]
  refine exec_of_owner (c := .abortProcedure) _ (accepted false []) ha ?_
  rw [← endedWith_discarded]
  exact abortProcedure_of_closing (s := discarded l s) h hclosing

theorem exec_abort_of_other {l : Link} {p : Payload} (ha : Admitted l .abortProcedure p s) (h : s.proc.state ≠ .idle)
    (hclosing : testClosing s = false) :
    exec (.abortProcedure l p) s = .next (answered l 0x2B#8 .ok [] (endedWith s.proc.results s)) := by
  refine exec_of_owner (c := .abortProcedure) _ (accepted false []) ha ?_
  rw [← endedWith_discarded]
  exact abortProcedure_of_other (s := discarded l s) h hclosing

end Abort

/-! ## Suspend Test (R135) -/

theorem testClosing_iff (s : State) :
    testClosing s = true ↔ s.proc.state = .settling ∨ s.proc.state = .measuring := by
  rw [testClosing, Bool.or_eq_true, beq_iff_eq, beq_iff_eq]

theorem suspendTest_of_closing {s : State} (h : testClosing s = true) :
    suspendTest s =
      ({ s with
          proc :=
            { s.proc with
              state := .suspended
              testSet := s.proc.testSet.map fun t => { t with sealedMark := false, startPressure := none }
              measureStart := none
              measureExpiry := none } },
        accepted false []) :=
  if_pos h

theorem suspendTest_of_other {s : State} (h : ¬testClosing s = true) : suspendTest s = (s, refusal .notRunning) :=
  if_neg h

/-- Settles O45: each ending by its state. -/
theorem procedureEndings : Obligations.ProcedureEndings := by
  intro s ended result
  refine ⟨fun e d h he hdue hd => ?measured, fun e h he hdue => ?purged, fun e h he hdue => ?purgedSuspended,
    fun l p ha => ⟨fun h => ?abortIdle, fun h => ?abortSettling, fun start h hstart => ?abortMeasuring, fun h => ?abortOther⟩,
    fun l p ha => ⟨fun h => ?suspend, fun h hm => ?refused⟩⟩
  case measured =>
    refine (execMeasuringExpiry_of_due h he hdue).trans ?_
    rw [completeTest, finishProcedure_results, funext (completeRecord_eq hd)]
    rfl
  case purged =>
    exact (execPurgeExpiry_of_due (.inl h) he hdue).trans (congrArg Host.Outcome.next (endPurge_of_purging h))
  case purgedSuspended =>
    exact (execPurgeExpiry_of_due (.inr h) he hdue).trans (congrArg Host.Outcome.next (endPurge_of_suspended h))
  case abortIdle => exact exec_of_refusal (c := .abortProcedure) ha (abortProcedure_of_idle (s := discarded l s) h)
  case abortSettling =>
    exact exec_abort_of_closing ha (by rw [h]; decide) ((testClosing_iff s).2 (.inl h)) (abortRecord_of_settling h)
  case abortMeasuring =>
    exact exec_abort_of_closing ha (by rw [h]; decide) ((testClosing_iff s).2 (.inr h)) (abortRecord_of_measuring h hstart)
  case abortOther =>
    have hstate : ∀ x ∈ [ProcState.gathering, .suspended, .suspendedPurging, .purging],
        x ≠ .idle ∧ x ≠ .settling ∧ x ≠ .measuring := by decide
    obtain ⟨hidle, hsettling, hmeasuring⟩ := hstate _ h
    refine exec_abort_of_other ha hidle (Bool.eq_false_iff.2 (mt (testClosing_iff s).1 ?_))
    exact not_or.2 ⟨hsettling, hmeasuring⟩
  case suspend =>
    have hclosing : testClosing (discarded l s) = true := (testClosing_iff s).2 h
    exact exec_of_owner (c := .suspendTest)
      { s with
        proc :=
          { s.proc with
            state := .suspended
            testSet := s.proc.testSet.map fun t => { t with sealedMark := false, startPressure := none }
            measureStart := none
            measureExpiry := none } }
      (accepted false []) ha (suspendTest_of_closing hclosing)
  case refused =>
    have hopen : ¬testClosing (discarded l s) = true := mt (testClosing_iff s).1 (not_or.2 ⟨h, hm⟩)
    exact exec_of_refusal (c := .suspendTest) ha (suspendTest_of_other hopen)

end Sys2Proof.Machine
end

section
/-! PROOFS. Sealing reports, STUCK valves, the entry into MEASURING, and silent heads (section 7.4). -/

namespace Sys2Proof.Machine

/-! ## The examination of the set (R131, R132) -/

/-- The places of a set whose head is heard. -/
def heardPlaces (s : State) (ts : List TestPlace) : List TestPlace := ts.filter fun t => !headSilent s t.slot

section Examination

variable {w : State}

theorem examineSettling_of_unsealed (h : w.proc.testSet.all (·.sealedMark) = false) : examineSettling w = w := by
  have hne : w.proc.testSet.isEmpty = false := by
    rw [List.isEmpty_eq_false_iff]
    intro hnil
    rw [hnil] at h
    cases h
  rw [examineSettling, hne, h]
  rfl

/-- The set enters MEASURING with the places that are heard. -/
theorem examineSettling_of_heard (h : w.proc.testSet.all (·.sealedMark) = true)
    (hheard : heardPlaces w w.proc.testSet ≠ []) :
    examineSettling w = setProc (startedMeasuring w (measuringProc w)) w := by
  have hne : w.proc.testSet.isEmpty = false := by
    rw [List.isEmpty_eq_false_iff]
    intro hnil
    exact hheard (by rw [hnil]; rfl)
  have hleft : (measuringProc w).testSet.isEmpty = false := List.isEmpty_eq_false_iff.2 hheard
  rw [examineSettling, hne, h, enterMeasuring, hleft]
  rfl

/-- The set ends when none of it is heard. -/
theorem examineSettling_of_unheard (h : w.proc.testSet.all (·.sealedMark) = true)
    (hheard : heardPlaces w w.proc.testSet = []) (hne : w.proc.testSet ≠ []) :
    examineSettling w = finishProcedure (setProc (measuringProc w) w) := by
  have hnonempty : w.proc.testSet.isEmpty = false := List.isEmpty_eq_false_iff.2 hne
  have hleft : (measuringProc w).testSet.isEmpty = true := List.isEmpty_iff.2 hheard
  rw [examineSettling, hnonempty, h, enterMeasuring, hleft]
  rfl

theorem examineSettling_of_empty (h : w.proc.testSet = []) : examineSettling w = finishProcedure w := by
  rw [examineSettling, h]
  rfl

/-- Every place is silent when none is heard. -/
theorem silent_of_unheard {ts : List TestPlace} (hheard : heardPlaces w ts = []) (hne : ts ≠ []) :
    (ts.any fun t => headSilent w t.slot) = true := by
  obtain ⟨t, rest, rfl⟩ := List.exists_cons_of_ne_nil hne
  have ht := List.filter_eq_nil_iff.1 hheard t List.mem_cons_self
  rw [Bool.not_eq_true, Bool.not_eq_false'] at ht
  rw [List.any_cons, ht, Bool.true_or]

/-- R132: the measuring of the heard places. -/
theorem examineSettling_measuring (h : w.proc.testSet.all (·.sealedMark) = true)
    (hheard : heardPlaces w w.proc.testSet ≠ []) :
    (examineSettling w).proc.state = .measuring ∧
      (examineSettling w).proc.testSet =
        (heardPlaces w w.proc.testSet).map (fun t => { t with startPressure := pressureOf w t.slot }) ∧
      (examineSettling w).proc.measureStart = some w.elapsed ∧
      (∀ d, w.proc.duration = some d → (examineSettling w).proc.measureExpiry = some (w.elapsed + d)) ∧
      (examineSettling w).proc.errorFlag = (w.proc.errorFlag || w.proc.testSet.any fun t => headSilent w t.slot) ∧
      (examineSettling w).proc.results =
        appendFor (bareResult .noReading) (w.proc.testSet.filter fun t => headSilent w t.slot) w.proc.results ∧
      (examineSettling w).links = w.links := by
  rw [examineSettling_of_heard h hheard]
  refine ⟨rfl, rfl, rfl, fun d hd => ?_, rfl, rfl, rfl⟩
  have hduration : (measuringProc w).duration = some d := hd
  simp only [setProc, startedMeasuring, hduration, Option.getD_some]

/-- R132: the end of a set that is not heard. -/
theorem examineSettling_ended (h : w.proc.testSet.all (·.sealedMark) = true) (hheard : heardPlaces w w.proc.testSet = [])
    (hne : w.proc.testSet ≠ []) :
    (examineSettling w).proc.state = .idle ∧ (examineSettling w).proc.testSet = [] ∧
      (examineSettling w).proc.errorFlag = true ∧
      (examineSettling w).proc.results =
        appendFor (bareResult .noReading) (w.proc.testSet.filter fun t => headSilent w t.slot) w.proc.results ∧
      (examineSettling w).links = noticedLinks .procedureDone w := by
  rw [examineSettling_of_unheard h hheard hne]
  refine ⟨rfl, rfl, ?_, rfl, rfl⟩
  have hflag : (measuringProc w).errorFlag = (w.proc.errorFlag || w.proc.testSet.any fun t => headSilent w t.slot) := rfl
  rw [finishProcedure_proc]
  exact hflag.trans (by rw [silent_of_unheard hheard hne, Bool.or_true])

end Examination

/-- The examination changes the links and the procedure alone. -/
theorem examineSettling_frame (q : Procedure) (s : State) :
    { examineSettling (setProc q s) with links := s.links, proc := s.proc } = s := by
  have helapsed : (examineSettling (setProc q s)).elapsed = s.elapsed := examineSettling_elapsed _
  have hplan : (examineSettling (setProc q s)).plan = s.plan := examineSettling_plan _
  have hscanner : (examineSettling (setProc q s)).scanner = s.scanner := examineSettling_scanner _
  have hrounds : (examineSettling (setProc q s)).rounds = s.rounds := examineSettling_rounds _
  have hmotion : (examineSettling (setProc q s)).motion = s.motion := examineSettling_motion _
  have hgas : (examineSettling (setProc q s)).gas = s.gas := examineSettling_gas _
  have htrips : (examineSettling (setProc q s)).trips = s.trips := examineSettling_trips _
  have hstore : (examineSettling (setProc q s)).store = s.store := examineSettling_store _
  have hpending : (examineSettling (setProc q s)).pending = s.pending := examineSettling_pending _
  generalize examineSettling (setProc q s) = t at *
  exact State.eq_of_blocks helapsed rfl hplan hscanner hrounds hmotion hgas htrips rfl hstore hpending

/-! ## Sealing reports and STUCK valves in SETTLING (R131) -/

/-- The set with a slot's place marked sealed. -/
def markedPlaces (i : SlotIdx) (ts : List TestPlace) : List TestPlace :=
  ts.map fun t => if t.slot == i then { t with sealedMark := true } else t

section Settling

variable {s : State} {i : SlotIdx}

theorem sealSlot_of_settling (h : s.proc.state = .settling) (hi : inTestSet s i = true) :
    sealSlot i s = examineSettling (setProc { s.proc with testSet := markedPlaces i s.proc.testSet } s) := by
  rw [sealSlot, h, hi]
  rfl

theorem dropStuck_of_settling (h : s.proc.state = .settling) (hi : inTestSet s i = true) :
    dropStuck i s =
      examineSettling
        (setProc
          { s.proc with
            testSet := s.proc.testSet.filter fun t => !(t.slot == i)
            results := appendFor (bareResult .noSeal) (s.proc.testSet.filter fun t => t.slot == i) s.proc.results
            errorFlag := true }
          s) := by
  have hany : (s.proc.testSet.any fun t => t.slot == i) = true := hi
  rw [dropStuck, h, hi, Procedure.leave, hany, Bool.or_true]
  rfl

theorem testSet_ne_nil (hi : inTestSet s i = true) : s.proc.testSet ≠ [] := by
  intro hnil
  rw [inTestSet, hnil] at hi
  cases hi

end Settling

/-! ## Silent heads in MEASURING (R133) -/

/-- The record of a set slot whose head falls silent. -/
def silentRecord (s : State) (start : Nat) (t : TestPlace) : ResultRecord :=
  { slot := t.slot, outcome := .noReading, startPressure := t.startPressure, endPressure := none,
    seconds := s.elapsed - start, riseRate := none }

theorem dropSilent_of_measuring {s : State} {i : SlotIdx} {start : Nat} (h : s.proc.state = .measuring)
    (hi : inTestSet s i = true) (hstart : s.proc.measureStart = some start) :
    dropSilent i s =
      finishIfEmpty
        (setProc
          { s.proc with
            testSet := s.proc.testSet.filter fun t => !(t.slot == i)
            results := appendFor (silentRecord s start) (s.proc.testSet.filter fun t => t.slot == i) s.proc.results
            errorFlag := true }
          s) := by
  have hany : (s.proc.testSet.any fun t => t.slot == i) = true := hi
  simp only [dropSilent, h, hi, hstart, Procedure.leave, hany, Bool.or_true, beq_self_eq_true, Bool.and_self, if_true,
    Option.getD_some]
  rfl

/-- Settles O44: the examination after a sealing report and after a valve becomes STUCK, then the two events in
MEASURING. -/
theorem sealingAndMeasuring : Obligations.SealingAndMeasuring := by
  refine ⟨fun s i h hi => ?sealing, fun s i h hi => ?stuck, fun s i h hstuck => ?stuckMeasuring,
    fun s i start h hi hstart => ?silent⟩
  case sealing =>
    intro marked heard results t
    have ht : t = examineSettling (setProc { s.proc with testSet := marked } s) := sealSlot_of_settling h hi
    have hmarked : marked ≠ [] := mt List.map_eq_nil_iff.1 (testSet_ne_nil hi)
    rw [ht]
    exact ⟨fun hall => examineSettling_of_unsealed hall, fun hall hheard => examineSettling_measuring hall hheard,
      fun hall hheard => examineSettling_ended hall hheard hmarked,
      examineSettling_frame _ s⟩
  case stuck =>
    intro left noSeal heard results t
    have ht : t = examineSettling (setProc { s.proc with testSet := left, results := noSeal, errorFlag := true } s) :=
      dropStuck_of_settling h hi
    rw [ht]
    refine ⟨fun hall => examineSettling_of_unsealed hall, fun hall hheard => ?measuring, fun hall hheard => ?ended,
      examineSettling_frame _ s⟩
    case measuring => exact examineSettling_measuring hall hheard
    case ended =>
      by_cases hleft : left = []
      · rw [examineSettling_of_empty (by exact hleft)]
        refine ⟨rfl, rfl, rfl, ?_, rfl⟩
        simp only [results, hleft]
        rfl
      · exact examineSettling_ended hall hheard hleft
  case stuckMeasuring =>
    obtain ⟨hproc, hlinks⟩ := stickValve_of_outside hstuck (.inl (by rw [h]; decide))
    exact ⟨hproc, hlinks, (valveOf_stickValve i s i).trans (if_pos rfl)⟩
  case silent =>
    intro left record results
    have hdrop : dropSilent i s =
        finishIfEmpty (setProc { s.proc with testSet := left, results := results, errorFlag := true } s) :=
      dropSilent_of_measuring h hi hstart
    rw [hdrop]
    refine ⟨fun hleft => finishIfEmpty_of_rest (List.isEmpty_eq_false_iff.2 hleft), fun hleft => ?_⟩
    rw [finishIfEmpty_of_empty (List.isEmpty_iff.2 hleft)]
    exact ⟨rfl, rfl, rfl, rfl⟩

end Sys2Proof.Machine
end

section
/-! PROOFS. The Field Scanner: misses and silent heads (sections 2.1, 2.3). -/

namespace Sys2Proof.Machine

/-! ## Polls that yield no valid reply (R22, R25) -/

theorem replyTo_eq_none {head : HeadAddr} {bytes : List Byte}
    (h : bytes.length ≠ 17 ∨ bytes.head? ≠ some 0x5A#8 ∨ numAt bytes 15 2 ≠ (crc16 ((bytes.drop 1).take 14)).toNat ∨
      numAt bytes 1 1 ≠ head.address) : replyTo head bytes = none := by
  rw [replyTo, if_neg]
  simp only [replyIntact, replyContents, Bool.and_eq_true, beq_iff_eq]
  tauto

theorem pollMissed_of_poll {s : State} {p : Poll} (h : s.scanner.poll = some p) :
    pollMissed s = sendNext (missReply p.head (clearPoll s)) := by
  rw [pollMissed, h]

theorem fieldFrame_of_rejected {s : State} {p : Poll} {bytes : List Byte} (h : s.scanner.poll = some p)
    (hr : replyTo p.head bytes = none) : fieldFrame bytes s = sendNext (missReply p.head (clearPoll s)) := by
  simp only [fieldFrame, h, hr]

theorem fieldFrame_of_no_poll {s : State} (bytes : List Byte) (h : s.scanner.poll = none) : fieldFrame bytes s = s := by
  rw [fieldFrame, h]

/-! ## The count of misses (R26) -/

section Counts

variable {h : Head}

theorem Head.miss_counted (hstate : h.state = .responding) (hfew : h.misses < 2) :
    h.miss = { state := .responding, misses := h.misses + 1 } ∧ h.fallsSilent = false := by
  obtain ⟨state, misses⟩ := h
  obtain rfl : state = .responding := hstate
  have hmiss : Head.miss ⟨.responding, misses⟩ = ⟨.responding, misses + 1⟩ := if_pos hfew
  rw [Head.fallsSilent, hmiss]
  exact ⟨rfl, rfl⟩

theorem Head.miss_silences (hstate : h.state = .responding) (hthird : h.misses = 2) :
    h.miss = { state := .silent, misses := 3 } ∧ h.fallsSilent = true := by
  obtain ⟨state, misses⟩ := h
  obtain rfl : state = .responding := hstate
  obtain rfl : misses = 2 := hthird
  exact ⟨rfl, rfl⟩

theorem Head.miss_of_silent (hstate : h.state = .silent) : h.miss = h ∧ h.fallsSilent = false := by
  obtain ⟨state, misses⟩ := h
  obtain rfl : state = .silent := hstate
  exact ⟨rfl, rfl⟩

end Counts

theorem missReply_slot {s : State} {i : SlotIdx} {h : Head} (hh : s.scanner.heads.get i = some h) :
    missReply (.slot i) s =
      if h.fallsSilent then dropSilent i (raise .headSilent (setHead i (some h.miss) s))
      else setHead i (some h.miss) s := by
  simp only [missReply, hh]

theorem missReply_manifold (s : State) :
    missReply .manifold s =
      raiseIf s.scanner.manifoldHead.fallsSilent .headSilent
        { s with scanner := { s.scanner with manifoldHead := s.scanner.manifoldHead.miss } } :=
  rfl

theorem setHead_self {s : State} {i : SlotIdx} {h : Option Head} (hh : s.scanner.heads.get i = h) : setHead i h s = s := by
  rw [← hh, setHead, Table.set_get]

theorem dropSilent_of_outside {s : State} {i : SlotIdx} (h : s.proc.state ≠ .measuring ∨ inTestSet s i = false) :
    dropSilent i s = s := by
  rw [dropSilent, if_neg]
  simpa [imp_iff_not_or] using h

/-- Settles O48: the poll's end, then a slot's head and the manifold's by their counts. -/
theorem misses : Obligations.Misses := by
  refine ⟨⟨fun s p hp => ⟨?timeout, fun bytes hbad => ?rejected⟩, fun s bytes => ⟨rfl, fun h => ?stray⟩⟩,
    fun s i h hh => ?slot, fun s => ?manifold⟩
  case timeout => exact congrArg Host.Outcome.next (pollMissed_of_poll hp)
  case rejected => exact congrArg Host.Outcome.next (fieldFrame_of_rejected hp (replyTo_eq_none hbad))
  case stray => exact congrArg Host.Outcome.next (fieldFrame_of_no_poll bytes h)
  case slot =>
    intro head
    rw [missReply_slot hh]
    refine ⟨fun hstate hfew => ?counted, fun hstate hthird => ?third, fun hstate => ?silent⟩
    case counted =>
      obtain ⟨hmiss, hfalls⟩ := Head.miss_counted hstate hfew
      rw [hmiss, hfalls]
      rfl
    case third =>
      intro fallen
      obtain ⟨hmiss, hfalls⟩ := Head.miss_silences hstate hthird
      rw [hmiss, hfalls]
      exact ⟨fun _ _ => rfl, fun h => dropSilent_of_outside (s := fallen) h⟩
    case silent =>
      obtain ⟨hmiss, hfalls⟩ := Head.miss_of_silent hstate
      rw [hmiss, hfalls, setHead_self hh]
      rfl
  case manifold =>
    intro h head
    rw [missReply_manifold]
    refine ⟨fun hstate hfew => ?mcounted, fun hstate hthird => ?mthird, fun hstate => ?msilent⟩
    case mcounted =>
      obtain ⟨hmiss, hfalls⟩ := Head.miss_counted hstate hfew
      rw [hmiss, hfalls]
      rfl
    case mthird =>
      obtain ⟨hmiss, hfalls⟩ := Head.miss_silences hstate hthird
      rw [hmiss, hfalls]
      rfl
    case msilent =>
      obtain ⟨hmiss, hfalls⟩ := Head.miss_of_silent hstate
      rw [hmiss, hfalls]
      rfl

end Sys2Proof.Machine
end

section
/-! PROOFS. A reply taken from a slot's head: the readings, the reported position with the steps of R78, and the end of
a retirement (sections 2.1, 2.3 to 2.5, 4.1, 4.3, 4.4). -/

namespace Sys2Proof.Machine

/-! ## The reported position (R78) -/

theorem SameIssues.setValve {s t : State} (h : SameIssues s t) (i : SlotIdx) (v : Valve) :
    SameIssues (setValve i v s) (setValve i v t) where
  elapsed := h.elapsed
  active := h.active
  motion := by rw [Machine.setValve, Machine.setValve, h.motion]
  running := h.running

theorem SameIssues.removeEntries {s t : State} (h : SameIssues s t) (sel : SlotIdx → Bool) :
    SameIssues (removeEntries sel s) (removeEntries sel t) where
  elapsed := h.elapsed
  active := h.active
  motion := by rw [Machine.removeEntries, Machine.removeEntries, h.motion]
  running := h.running

theorem SameIssues.takePosition {s t : State} (h : SameIssues s t) (i : SlotIdx) (p : Nat) :
    SameIssues (takePosition i p s) (takePosition i p t) := by
  have hvalve : valveOf t i = valveOf s i := valveOf_congr h.motion i
  have hzone : zoneAt t i = zoneAt s i := by rw [zoneAt, zoneAt, h.active]
  have hset := h.setValve i ((valveOf s i).report p)
  simp only [Machine.takePosition, hvalve, hzone]
  split
  exacts [hset.issueZone _, hset]

section Position

variable {s : State} {i : SlotIdx} {p : Nat}

theorem Valve.completes_iff (p : Nat) (v : Valve) :
    v.completes p = true ↔ v.isMoving = true ∧ p ≤ v.commanded + 2 ∧ v.commanded ≤ p + 2 := by
  simp only [Valve.completes, Bool.and_eq_true, decide_eq_true_eq, and_assoc]

theorem takePosition_of_done (h : (valveOf s i).completes p = true) :
    takePosition i p s =
      issueZone (zoneAt s i) (setValve i { valveOf s i with reported := some p, state := .atRest } s) := by
  simp only [takePosition, Valve.report, h, if_true]

theorem takePosition_of_other (h : (valveOf s i).completes p = false) :
    takePosition i p s = setValve i { valveOf s i with reported := some p } s := by
  simp only [takePosition, Valve.report, h, Bool.false_eq_true, if_false]

theorem completes_of_stuck (h : (valveOf s i).isStuck = true) : (valveOf s i).completes p = false := by
  rw [Valve.completes, Valve.isMoving, (Valve.isStuck_iff _).1 h]
  rfl

/-- Issuing entries makes no valve STUCK. -/
theorem isStuck_issueZone (k : ZoneIdx) (h : (valveOf s i).isStuck = false) : (valveOf (issueZone k s) i).isStuck = false := by
  refine issueLoop_induction (k := k) (R := fun s t => (valveOf s i).isStuck = false → (valveOf t i).isStuck = false)
    (fun _ h => h) (fun _ hrest h => hrest ?_) _ s h
  rw [valveOf_issueEntry]
  split
  · rfl
  · exact h

/-- A reported position makes no valve STUCK, and frees none. -/
theorem isStuck_takePosition : (valveOf (takePosition i p s) i).isStuck = (valveOf s i).isStuck := by
  cases hdone : (valveOf s i).completes p with
  | false =>
    rw [takePosition_of_other hdone, valveOf_setValve, if_pos rfl]
    rfl
  | true =>
    have hfree : (valveOf s i).isStuck = false := by
      by_contra hstuck
      rw [completes_of_stuck (Bool.eq_true_of_not_eq_false hstuck)] at hdone
      cases hdone
    rw [hfree, takePosition_of_done hdone]
    refine isStuck_issueZone _ ?_
    rw [valveOf_setValve, if_pos rfl]
    rfl

theorem valveOf_takePosition_reported : (valveOf (takePosition i p s) i).reported = some p := by
  cases hdone : (valveOf s i).completes p with
  | false => rw [takePosition_of_other hdone, valveOf_setValve, if_pos rfl]
  | true => rw [takePosition_of_done hdone, valveOf_issueZone_reported, valveOf_setValve, if_pos rfl]

/-- With no entry in the zone's queue, a reported position moves nothing. -/
theorem valveOf_takePosition_of_empty (h : s.motion.queues.get (zoneAt s i) = []) :
    valveOf (takePosition i p s) i =
      { valveOf s i with
        reported := some p, state := if (valveOf s i).completes p then .atRest else (valveOf s i).state } := by
  cases hdone : (valveOf s i).completes p with
  | false =>
    rw [takePosition_of_other hdone, valveOf_setValve, if_pos rfl]
    rfl
  | true =>
    have hqueue : ∀ e ∈ (setValve i { valveOf s i with reported := some p, state := .atRest } s).motion.queues.get
        (zoneAt s i), e.slot ≠ i := fun e he => by
      have hnone : e ∈ s.motion.queues.get (zoneAt s i) := he
      rw [h] at hnone
      cases hnone
    rw [takePosition_of_done hdone, valveOf_issueZone_of_not_queued _ _ hqueue, valveOf_setValve, if_pos rfl]
    rfl

end Position

/-! ## The test a slot's reply may change (R131) -/

section Tests

variable {s t : State}

theorem measuringProc_congr (hproc : t.proc = s.proc) (hheads : t.scanner.heads = s.scanner.heads) :
    measuringProc t = measuringProc s := by
  simp only [measuringProc, headSilent, hproc, hheads]

theorem examineSettling_proc_congr (hproc : t.proc = s.proc) (helapsed : t.elapsed = s.elapsed)
    (hheads : t.scanner.heads = s.scanner.heads) (hrecords : t.scanner.records = s.scanner.records) :
    (examineSettling t).proc = (examineSettling s).proc := by
  have hmeasuring := measuringProc_congr hproc hheads
  have hstarted : startedMeasuring t (measuringProc s) = startedMeasuring s (measuringProc s) := by
    simp only [startedMeasuring, pressureOf, readingOf, helapsed, hrecords]
  rw [examineSettling, examineSettling, enterMeasuring, enterMeasuring, hproc, hmeasuring, hstarted]
  split
  · exact congrArg Procedure.finish hproc
  · split
    · split <;> rfl
    · exact hproc

theorem sealSlot_proc_congr (i : SlotIdx) (hproc : t.proc = s.proc) (helapsed : t.elapsed = s.elapsed)
    (hheads : t.scanner.heads = s.scanner.heads) (hrecords : t.scanner.records = s.scanner.records) :
    (sealSlot i t).proc = (sealSlot i s).proc := by
  have hin : inTestSet t i = inTestSet s i := by rw [inTestSet, inTestSet, hproc]
  rw [sealSlot, sealSlot, hin, hproc]
  split
  · exact examineSettling_proc_congr rfl helapsed hheads hrecords
  · exact hproc

theorem dropStuck_proc_congr (i : SlotIdx) (hproc : t.proc = s.proc) (helapsed : t.elapsed = s.elapsed)
    (hheads : t.scanner.heads = s.scanner.heads) (hrecords : t.scanner.records = s.scanner.records) :
    (dropStuck i t).proc = (dropStuck i s).proc := by
  have hin : inTestSet t i = inTestSet s i := by rw [inTestSet, inTestSet, hproc]
  rw [dropStuck, dropStuck, hin, hproc]
  split
  · exact examineSettling_proc_congr rfl helapsed hheads hrecords
  · exact hproc

theorem sealSlot_of_outside {i : SlotIdx} (h : s.proc.state ≠ .settling ∨ inTestSet s i = false) : sealSlot i s = s := by
  rw [sealSlot, if_neg]
  simpa [imp_iff_not_or] using h

end Tests

/-! ## The steps of R78 together -/

/-- The state after the position and the seal, before a valve fault. -/
def sealedPosition (i : SlotIdx) (p : Nat) (s : State) : State :=
  if p ≤ 2 then sealSlot i (takePosition i p s) else takePosition i p s

theorem positionTaken_eq (i : SlotIdx) (p : Nat) (fault : Bool) (s : State) :
    positionTaken i p fault s =
      if fault then stickAndIssue i (sealedPosition i p s) else sealedPosition i p s :=
  rfl

section Steps

variable {s : State} {i : SlotIdx} {p : Nat}

theorem sealedPosition_motion : (sealedPosition i p s).motion = (takePosition i p s).motion := by
  rw [sealedPosition]
  split
  · exact sealSlot_motion _ i
  · rfl

theorem isStuck_sealedPosition : (valveOf (sealedPosition i p s) i).isStuck = (valveOf s i).isStuck := by
  rw [valveOf_congr sealedPosition_motion, isStuck_takePosition]

theorem sameIssues_sealedPosition : SameIssues (takePosition i p s) (sealedPosition i p s) where
  elapsed := by rw [sealedPosition]; split <;> simp
  active := by rw [sealedPosition]; split <;> simp
  motion := sealedPosition_motion
  running := by rw [sealedPosition]; split <;> simp [running]

theorem sealedPosition_proc :
    (sealedPosition i p s).proc = if p ≤ 2 then (sealSlot i (takePosition i p s)).proc else s.proc := by
  rw [sealedPosition]
  split
  · rfl
  · exact takePosition_proc s i p

theorem sealedPosition_proc_of_outside (h : s.proc.state ≠ .settling ∨ inTestSet s i = false) :
    (sealedPosition i p s).proc = s.proc := by
  have hout : (takePosition i p s).proc.state ≠ .settling ∨ inTestSet (takePosition i p s) i = false := by
    rw [inTestSet, takePosition_proc]
    exact h
  rw [sealedPosition_proc, sealSlot_of_outside hout, takePosition_proc, ite_self]

/-- The valves after a reply without a new fault are those of the position. -/
theorem positionTaken_motion_of_quiet {fault : Bool} (h : fault = false ∨ (valveOf s i).isStuck = true) :
    (positionTaken i p fault s).motion = (takePosition i p s).motion := by
  rw [positionTaken_eq, ← sealedPosition_motion]
  cases fault with
  | false => rfl
  | true =>
    have hstuck : (valveOf s i).isStuck = true := h.resolve_left (by decide)
    rw [if_pos rfl, stickAndIssue_of_stuck _ _ (isStuck_sealedPosition.trans hstuck)]

/-- The valves after a new fault: the slot's is STUCK, its entry is gone, and its zone is tested again. -/
theorem positionTaken_motion_of_fault (h : (valveOf s i).isStuck = false) :
    (positionTaken i p true s).motion =
      (issueZone (zoneAt s i)
        (removeEntries (fun j => j == i)
          (setValve i (valveOf (takePosition i p s) i).stuck (takePosition i p s)))).motion := by
  have hzone : zoneAt (sealedPosition i p s) i = zoneAt s i := by
    rw [zoneAt, sameIssues_sealedPosition.active, takePosition_plan, zoneAt]
  rw [positionTaken_eq, if_pos rfl, stickAndIssue_motion (isStuck_sealedPosition.trans h), hzone,
    valveOf_congr sealedPosition_motion]
  exact ((((sameIssues_sealedPosition (p := p)).setValve i _).removeEntries _).issueZone _).motion

theorem positionTaken_stuck (h : ∀ k, ∀ e ∈ s.motion.queues.get k, (valveOf s e.slot).isStuck = false) :
    (valveOf (positionTaken i p true s) i).state = .stuck ∧ NotQueued i (positionTaken i p true s) := by
  cases hstuck : (valveOf s i).isStuck with
  | false =>
    rw [positionTaken_eq, if_pos rfl]
    have hsealed := (isStuck_sealedPosition (p := p)).trans hstuck
    rw [valveOf_stickAndIssue hsealed]
    exact ⟨rfl, stickAndIssue_not_queued hsealed⟩
  | true =>
    have hmotion := positionTaken_motion_of_quiet (p := p) (fault := true) (.inr hstuck)
    rw [takePosition_of_other (completes_of_stuck hstuck)] at hmotion
    refine ⟨?_, fun k e he => ?_⟩
    · rw [valveOf_congr hmotion, valveOf_setValve, if_pos rfl]
      exact (Valve.isStuck_iff _).1 hstuck
    · rw [hmotion] at he
      rintro rfl
      rw [h k e he] at hstuck
      cases hstuck

theorem valveOf_positionTaken_reported (fault : Bool) :
    (valveOf (positionTaken i p fault s) i).reported = some p := by
  by_cases hquiet : fault = false ∨ (valveOf s i).isStuck = true
  · rw [valveOf_congr (positionTaken_motion_of_quiet hquiet), valveOf_takePosition_reported]
  · obtain ⟨hfault, hfree⟩ := not_or.1 hquiet
    rw [Bool.not_eq_false] at hfault
    rw [Bool.not_eq_true] at hfree
    subst hfault
    rw [positionTaken_eq, if_pos rfl, valveOf_stickAndIssue (isStuck_sealedPosition.trans hfree),
      valveOf_congr sealedPosition_motion]
    exact valveOf_takePosition_reported

theorem noticed_positionTaken (h : (valveOf s i).isStuck = false) : Noticed .valveFault (positionTaken i p true s) := by
  have hsealed := (isStuck_sealedPosition (p := p)).trans h
  rw [positionTaken_eq, if_pos rfl]
  intro l
  rw [(stickAndIssue_proc_links hsealed).2]
  exact noticed_stickValve hsealed l

theorem positionTaken_proc_of_outside (fault : Bool) (h : s.proc.state ≠ .settling ∨ inTestSet s i = false) :
    (positionTaken i p fault s).proc = s.proc := by
  have hproc := sealedPosition_proc_of_outside (p := p) h
  rw [positionTaken_eq]
  split
  · cases hstuck : (valveOf (sealedPosition i p s) i).isStuck with
    | true => rw [stickAndIssue_of_stuck _ _ hstuck, hproc]
    | false =>
      have hout : (sealedPosition i p s).proc.state ≠ .settling ∨ inTestSet (sealedPosition i p s) i = false := by
        rw [inTestSet, hproc]
        exact h
      rw [(stickAndIssue_proc_links hstuck).1, (stickValve_of_outside hstuck hout).1, hproc]
  · exact hproc

/-- A valve that becomes STUCK away from its seal leaves a settling test. -/
theorem positionTaken_proc_of_fault (h : (valveOf s i).isStuck = false) (hp : 2 < p) :
    (positionTaken i p true s).proc = (dropStuck i s).proc := by
  have hopen : sealedPosition i p s = takePosition i p s := if_neg (Nat.not_le.2 hp)
  have hfree : (valveOf (takePosition i p s) i).isStuck = false := isStuck_takePosition.trans h
  rw [positionTaken_eq, if_pos rfl, hopen, (stickAndIssue_proc_links hfree).1, (stickValve_dropStuck hfree).1]
  have hscanner := takePosition_scanner s i p
  exact dropStuck_proc_congr i (takePosition_proc s i p) (takePosition_elapsed s i p) (congrArg _ hscanner)
    (congrArg _ hscanner)

end Steps

end Sys2Proof.Machine
end

section
/-! PROOFS. The statement on a reply taken from a slot's head (sections 2.1, 2.3 to 2.5, 4.1, 4.3, 4.4, 7.4). -/

namespace Sys2Proof.Machine

/-! ## What a reply writes (R28 to R35) -/

theorem renew_eq (drain fault : Bool) (value now : Nat) (old : Option Stamped) :
    renew (!drain && !fault) value now old =
      if drain = false ∧ fault = false then some { value := value, time := now } else old := by
  cases drain <;> cases fault <;> rfl

/-- A slot's record after a reply, by its flags. -/
theorem slot_take_eq (now : Nat) (i : SlotIdx) (r : HeadReply) (rec : ReadingRecord) :
    rec.take now (r.clamp (.slot i)) =
      { methane :=
          if r.drainOpen = false ∧ r.faults.methane = false then some { value := min 1000 r.c, time := now }
          else rec.methane
        oxygen :=
          if r.drainOpen = false ∧ r.faults.oxygen = false then some { value := min 250 r.o, time := now }
          else rec.oxygen
        flow :=
          if r.drainOpen = false ∧ r.faults.flow = false then some { value := min 20000 r.q, time := now }
          else rec.flow
        pressure := some { value := min 20000 r.pressure, time := now }
        position := some { value := min 100 r.position, time := now }
        drainOpen := some r.drainOpen
        faults := some r.faults } := by
  simp only [ReadingRecord.take, renew_eq, HeadReply.clamp, HeadAddr.maxFlow]

/-- A slot's yield estimate after a reply (R34, R35). -/
theorem updateYield_eq (i : SlotIdx) (r : HeadReply) (x : Roster) :
    x.updateYield (r.clamp (.slot i)) =
      { x with
        yieldEst :=
          if r.drainOpen = false ∧ r.faults.flow = false ∧ 10 ≤ min 100 r.position then
            x.yieldEst.map fun y => max 1 ((3 * y + min 20000 (min 20000 r.q * 100 / min 100 r.position)) / 4)
          else x.yieldEst } := by
  have hupdates : (r.clamp (.slot i)).updatesYield = true ↔
      r.drainOpen = false ∧ r.faults.flow = false ∧ 10 ≤ min 100 r.position := by
    simp only [HeadReply.updatesYield, Bool.and_eq_true, Bool.not_eq_true', decide_eq_true_eq, and_assoc]
    rfl
  simp only [Roster.updateYield, hupdates]
  split <;> rfl

section Recorded

variable {s : State} {i : SlotIdx}

/-- The state in which a reply of a slot's head has been recorded, the poll no longer outstanding. -/
def replyTaken (i : SlotIdx) (r : HeadReply) (s : State) : State := replyRecorded i (r.clamp (.slot i)) (clearPoll s)

theorem sameIssues_replyTaken (r : HeadReply) : SameIssues s (replyTaken i r s) := ⟨rfl, rfl, rfl, rfl⟩

theorem replyTaken_self {rec : ReadingRecord} (r : HeadReply) (hrec : s.scanner.records.get i = some rec) :
    (replyTaken i r s).scanner.heads.get i = some freshHead ∧
      (replyTaken i r s).scanner.records.get i = some (rec.take s.elapsed (r.clamp (.slot i))) ∧
      (replyTaken i r s).plan.roster.get i = (s.plan.roster.get i).updateYield (r.clamp (.slot i)) := by
  refine ⟨Table.get_set_self _ _ _, (Table.get_set_self _ _ _).trans ?_, Table.get_set_self _ _ _⟩
  have hclear : (clearPoll s).scanner.records.get i = some rec := hrec
  rw [hclear]
  rfl

theorem replyTaken_ne (r : HeadReply) {j : SlotIdx} (h : j ≠ i) :
    (replyTaken i r s).scanner.heads.get j = s.scanner.heads.get j ∧
      (replyTaken i r s).scanner.records.get j = s.scanner.records.get j ∧
      (replyTaken i r s).plan.roster.get j = s.plan.roster.get j :=
  ⟨Table.get_set_ne _ _ h, Table.get_set_ne _ _ h, Table.get_set_ne _ _ h⟩

/-- The state after a slot's reply, before the end of a retirement and the next poll. -/
def slotTaken (i : SlotIdx) (r : HeadReply) (s : State) : State :=
  positionTaken i (min 100 r.position) r.faults.valve (replyTaken i r s)

theorem fieldFrame_of_slot {p : Poll} {bytes : List Byte} {r : HeadReply} (hp : s.scanner.poll = some p)
    (hhead : p.head = .slot i) (hr : replyTo (.slot i) bytes = some r) (hi : inService s i = true) :
    fieldFrame bytes s =
      sendNext
        (if lifecycleOf s i = .retiring ∧ min 100 r.position ≤ 2 then
          retireDone i (slotTaken i r s)
        else slotTaken i r s) := by
  have hservice : inService (clearPoll s) i = true := hi
  have hlife : lifecycleOf (replyTaken i r s) i = lifecycleOf s i := lifecycleOf_replyRecorded i _ (clearPoll s) i
  simp only [fieldFrame, hp, hhead, hr, takeReply]
  rw [takeSlotReply_of_inService hservice, reportPosition_eq, ← hlife]
  rfl

end Recorded

/-! ## The end of a retirement (R17) -/

theorem retireDone_self (i : SlotIdx) (s : State) :
    lifecycleOf (retireDone i s) i = .retired ∧ ((retireDone i s).plan.roster.get i).yieldEst = none ∧
      ((retireDone i s).plan.roster.get i).commissioned = none ∧ (retireDone i s).scanner.records.get i = none ∧
      (retireDone i s).scanner.heads.get i = none ∧ valveOf (retireDone i s) i = restedValve := by
  have hroster : (retireDone i s).plan.roster.get i =
      { s.plan.roster.get i with lifecycle := .retired, yieldEst := none, commissioned := none } := Table.get_set_self _ _ _
  refine ⟨?_, ?_, ?_, Table.get_set_self _ _ _, Table.get_set_self _ _ _, Table.get_set_self _ _ _⟩
  · rw [lifecycleOf, hroster]
  · rw [hroster]
  · rw [hroster]

/-! ## What a slot's reply makes of the part -/

section Taken

variable {s : State} {i : SlotIdx} {r : HeadReply}

theorem slotTaken_scanner : (slotTaken i r s).scanner = (replyTaken i r s).scanner := positionTaken_scanner _ _ _ _

theorem slotTaken_plan : (slotTaken i r s).plan = (replyTaken i r s).plan := positionTaken_plan _ _ _ _

theorem slotTaken_frame :
    (slotTaken i r s).rounds = s.rounds ∧ (slotTaken i r s).gas = s.gas ∧ (slotTaken i r s).trips = s.trips ∧
      (slotTaken i r s).store = s.store ∧ (slotTaken i r s).elapsed = s.elapsed := by
  simp only [slotTaken, positionTaken]
  generalize hu : replyTaken i r s = u
  have hsame : u.rounds = s.rounds ∧ u.gas = s.gas ∧ u.trips = s.trips ∧ u.store = s.store ∧ u.elapsed = s.elapsed := by
    rw [← hu]
    exact ⟨rfl, rfl, rfl, rfl, rfl⟩
  split <;> split <;> simpa using hsame

theorem slotTaken_reported : (valveOf (slotTaken i r s) i).reported = some (min 100 r.position) :=
  valveOf_positionTaken_reported _

theorem sameIssues_takePosition_replyTaken (p : Nat) :
    SameIssues (takePosition i p s) (takePosition i p (replyTaken i r s)) :=
  (sameIssues_replyTaken r).takePosition i p

theorem slotTaken_motion_of_quiet (h : r.faults.valve = false ∨ (valveOf s i).isStuck = true) :
    (slotTaken i r s).motion = (takePosition i (min 100 r.position) s).motion :=
  (positionTaken_motion_of_quiet (s := replyTaken i r s) h).trans (sameIssues_takePosition_replyTaken _).motion

theorem slotTaken_motion_of_fault (h : r.faults.valve = true) (hfree : (valveOf s i).isStuck = false) :
    (slotTaken i r s).motion =
      (issueZone (zoneAt s i)
        (removeEntries (fun j => j == i)
          (setValve i (valveOf (takePosition i (min 100 r.position) s) i).stuck
            (takePosition i (min 100 r.position) s)))).motion := by
  have hsame := sameIssues_takePosition_replyTaken (s := s) (i := i) (r := r) (min 100 r.position)
  rw [slotTaken, h, positionTaken_motion_of_fault (s := replyTaken i r s) hfree, valveOf_congr hsame.motion]
  exact (((hsame.setValve i _).removeEntries _).issueZone _).motion

theorem slotTaken_stuck (hlaw : MotionLaw s) (h : r.faults.valve = true) :
    (valveOf (slotTaken i r s) i).state = .stuck ∧ NotQueued i (slotTaken i r s) ∧
      ((valveOf s i).isStuck = false → Noticed .valveFault (slotTaken i r s)) := by
  have hqueued : ∀ k, ∀ e ∈ s.motion.queues.get k, (valveOf s e.slot).isStuck = false := fun k e he =>
    ((mayQueue_iff s e.slot).1 ((((motionLaw_iff s).1 hlaw).queues k).may e he)).2.1
  rw [slotTaken, h]
  obtain ⟨hstate, hqueue⟩ := positionTaken_stuck (s := replyTaken i r s) (i := i) (p := min 100 r.position) hqueued
  exact ⟨hstate, hqueue, fun hfree => noticed_positionTaken (s := replyTaken i r s) hfree⟩

theorem slotTaken_proc_of_outside (h : s.proc.state ≠ .settling ∨ inTestSet s i = false) :
    (slotTaken i r s).proc = s.proc :=
  positionTaken_proc_of_outside (s := replyTaken i r s) _ h

theorem slotTaken_proc_of_sound (h : r.faults.valve = false) :
    (slotTaken i r s).proc =
      if min 100 r.position ≤ 2 then (sealSlot i (replyTaken i r s)).proc else s.proc := by
  rw [slotTaken, h]
  refine (sealedPosition_proc (s := replyTaken i r s)).trans ?_
  have hscanner := takePosition_scanner (replyTaken i r s) i (min 100 r.position)
  rw [sealSlot_proc_congr i (takePosition_proc (replyTaken i r s) i _) (takePosition_elapsed (replyTaken i r s) i _)
    (congrArg _ hscanner) (congrArg _ hscanner)]
  rfl

theorem slotTaken_proc_of_fault (h : r.faults.valve = true) (hfree : (valveOf s i).isStuck = false)
    (hpos : 2 < min 100 r.position) : (slotTaken i r s).proc = (dropStuck i (replyTaken i r s)).proc := by
  rw [slotTaken, h]
  exact positionTaken_proc_of_fault (s := replyTaken i r s) hfree hpos

end Taken

/-! ## The statement -/

/-- Settles O50: the reply recorded, then the steps of R78 by what each leaves, and the end of a retirement. -/
theorem slotReplyTaken : Obligations.SlotReplyTaken := by
  refine ⟨fun s p i bytes r rec hp hhead hr hlaw hrec hlife => ?taken, fun s p i bytes r hp hhead hr hlife hclosed _ => ?retired⟩
  case retired =>
    have hi : inService s i = true := by rw [inService, hlife]; rfl
    obtain ⟨hlifecycle, hyield, hcommissioned, hrecord, hheads, hvalve⟩ :=
      retireDone_self i (slotTaken i r s)
    have hframe := fieldFrame_of_slot hp hhead hr hi
    rw [if_pos ⟨hlife, le_trans (min_le_right _ _) hclosed⟩] at hframe
    refine ⟨_, congrArg Host.Outcome.next hframe, ?_⟩
    generalize retireDone i (slotTaken i r s) = d at *
    obtain ⟨hheadsNext, hrecordsNext, -⟩ := sendNext_scanner d
    rw [lifecycleOf_congr (congrArg PlanTable.roster (sendNext_plan d)), sendNext_plan, hrecordsNext, hheadsNext,
      valveOf_congr (sendNext_motion d)]
    exact ⟨hlifecycle, hyield, hcommissioned, hrecord, hheads, hvalve⟩
  case taken =>
    intro c o q position now reported withValve done
    have hi : inService s i = true := by
      rw [inService]
      rcases hlife with h | ⟨h, -⟩ <;> rw [h] <;> rfl
    have hopen : ¬(lifecycleOf s i = .retiring ∧ min 100 r.position ≤ 2) := by
      rintro ⟨hretiring, hpos⟩
      rcases hlife with h | ⟨-, h⟩
      · rw [hretiring] at h
        cases h
      · omega
    have hframe := fieldFrame_of_slot hp hhead hr hi
    rw [if_neg hopen] at hframe
    obtain ⟨hheadSelf, hrecordSelf, hrosterSelf⟩ := replyTaken_self r hrec
    rw [slot_take_eq] at hrecordSelf
    rw [updateYield_eq] at hrosterSelf
    obtain ⟨hrounds, hgas, htrips, hstore, helapsed⟩ := slotTaken_frame (s := s) (i := i) (r := r)
    obtain ⟨hheads, hrecords, -⟩ := sendNext_scanner (slotTaken i r s)
    have hcompletes : (valveOf s i).completes position = true ↔ done := Valve.completes_iff _ _
    rw [slotTaken_scanner] at hheads hrecords
    have hmotion := sendNext_motion (slotTaken i r s)
    have hlist : (slotTaken i r s).scanner.remaining = s.scanner.remaining := by
      rw [slotTaken_scanner]
      rfl
    have hnext : (sendNext (slotTaken i r s)).scanner.poll =
          (nextPoll s.scanner.remaining (sendNext (slotTaken i r s))).scanner.poll ∧
        (sendNext (slotTaken i r s)).scanner.remaining =
          (nextPoll s.scanner.remaining (sendNext (slotTaken i r s))).scanner.remaining := by
      obtain ⟨hpoll, hremaining⟩ := nextPoll_congr (sendNext_plan (slotTaken i r s)) hmotion (sendNext_proc (slotTaken i r s))
        s.scanner.remaining
      rw [hpoll, hremaining, ← hlist]
      exact ⟨rfl, rfl⟩
    refine ⟨sendNext (slotTaken i r s), congrArg Host.Outcome.next hframe, ?_⟩
    rw [valveOf_congr hmotion, sendNext_plan, slotTaken_plan, hheads, hrecords, hmotion,
      sendNext_rounds, hrounds, sendNext_gas, hgas, sendNext_trips, htrips, sendNext_store, hstore, sendNext_elapsed, helapsed,
      sendNext_proc]
    refine ⟨hheadSelf, hrecordSelf, hrosterSelf, slotTaken_reported, fun h => ?stuck, fun u hdone hother => ?moved,
      slotTaken_proc_of_outside, fun h => ?sealing, fun h hfree hpos => ?dropped, ?poll, ?remaining, fun h hempty => ?still,
      fun j hj => replyTaken_ne r hj, rfl, rfl, rfl, rfl, rfl, rfl, rfl⟩
    case stuck =>
      obtain ⟨hstate, hqueue, hnoticed⟩ := slotTaken_stuck hlaw h
      exact ⟨hstate, hqueue, fun hfree => (hnoticed hfree).mono (.of_eq (sendNext_links _))⟩
    case moved =>
      have hu : u = takePosition i position s := by
        by_cases hd : done
        · rw [hdone hd, takePosition_of_done (hcompletes.2 hd)]
          rfl
        · rw [hother hd, takePosition_of_other (Bool.eq_false_iff.2 (mt hcompletes.1 hd))]
          rfl
      rw [hu]
      exact ⟨slotTaken_motion_of_quiet, slotTaken_motion_of_fault⟩
    case sealing =>
      rw [slotTaken_proc_of_sound h]
      split
      · exact sealSlot_proc_congr i rfl rfl hheads.symm hrecords.symm
      · rfl
    case dropped =>
      rw [slotTaken_proc_of_fault h hfree hpos]
      exact dropStuck_proc_congr i rfl rfl hheads.symm hrecords.symm
    case poll => exact hnext.1
    case remaining => exact hnext.2
    case still =>
      have hvalve := valveOf_takePosition_of_empty (p := position) hempty
      rw [valveOf_congr (slotTaken_motion_of_quiet (.inl h)), hvalve]
      refine ⟨rfl, rfl, fun hm hlow hhigh => ?_, fun hno => ?_⟩
      · exact if_pos (hcompletes.2 ⟨hm, hlow, hhigh⟩)
      · refine if_neg (mt hcompletes.1 ?_)
        rintro ⟨hm, hlow, hhigh⟩
        rcases hno with hrest | hfar | hfar
        · rw [hm] at hrest
          cases hrest
        · omega
        · omega

end Sys2Proof.Machine
end

section
/-! PROOFS. What a round's handed targets make of valve records and queue entries (section 4.2). -/

namespace Sys2Proof.Machine

/-! ## The entries of one slot (R73, R74) -/

/-- Of the entries that keys make, those of one key. -/
theorem filter_filterMap_of_key {α β : Type} [DecidableEq α] {f : α → Option β} {key : β → α}
    (hkey : ∀ a b, f a = some b → key b = a) (xs : List α) (hnodup : xs.Nodup) (a : α) :
    (xs.filterMap f).filter (fun b => key b == a) = if a ∈ xs then (f a).toList else [] := by
  induction xs with
  | nil => rfl
  | cons x xs ih =>
    obtain ⟨hx, hxs⟩ := List.nodup_cons.1 hnodup
    have hrest := ih hxs
    by_cases hxa : x = a
    · subst hxa
      rw [if_neg hx] at hrest
      rw [if_pos List.mem_cons_self, List.filterMap_cons]
      cases hf : f x with
      | none => exact hrest
      | some b => simp [hkey x b hf, hrest]
    · have hmem : a ∈ x :: xs ↔ a ∈ xs := by rw [List.mem_cons, or_iff_right (Ne.symm hxa)]
      rw [if_congr hmem rfl rfl, ← hrest, List.filterMap_cons]
      cases hf : f x with
      | none => rfl
      | some b => simp [hkey x b hf, hxa]

section Hands

variable (s : State) (round : Nat) (hands : SlotIdx → Option Nat) (place : SlotIdx → Nat)

/-- The entries of a slot among those that the handed targets make. -/
theorem newEntries_filter (k : ZoneIdx) (i : SlotIdx) :
    (newEntries s round hands place k).filter (fun e => e.slot == i) =
      if k = zoneAt s i then ((hands i).bind fun u => entryFor s round (place i) i u).toList else [] := by
  have hkey : ∀ j e, (if zoneAt s j == k then (hands j).bind fun u => entryFor s round (place j) j u else none) = some e →
      e.slot = j := by
    intro j e he
    split at he
    · obtain ⟨u, -, hu⟩ := Option.bind_eq_some_iff.1 he
      exact entryFor_slot hu
    · cases he
  rw [newEntries, filter_filterMap_of_key hkey allSlots (List.nodup_finRange 60) i, if_pos (show i ∈ allSlots from List.mem_finRange i)]
  by_cases hk : k = zoneAt s i
  · rw [if_pos hk, if_pos (beq_iff_eq.2 hk.symm)]
  · rw [if_neg hk, if_neg (mt beq_iff_eq.1 (Ne.symm hk))]
    rfl

/-- The entries of a slot after the hand-over: those it had when nothing is handed to it, and else the new one. -/
theorem handTargets_entries_perm (k : ZoneIdx) (i : SlotIdx) :
    (((handTargets round hands place s).motion.queues.get k).filter fun e => e.slot == i).Perm
      ((((s.motion.queues.get k).filter fun e => (hands e.slot).isNone).filter fun e => e.slot == i) ++
        if k = zoneAt s i then ((hands i).bind fun u => entryFor s round (place i) i u).toList else []) := by
  rw [handTargets_queues_get, ← newEntries_filter, ← List.filter_append]
  exact (sortQueue_perm _).filter _

theorem handTargets_entries_of_none {i : SlotIdx} (h : hands i = none) (k : ZoneIdx) :
    (((handTargets round hands place s).motion.queues.get k).filter fun e => e.slot == i).Perm
      ((s.motion.queues.get k).filter fun e => e.slot == i) := by
  have hkept : ((s.motion.queues.get k).filter fun e => (hands e.slot).isNone).filter (fun e => e.slot == i) =
      (s.motion.queues.get k).filter fun e => e.slot == i := by
    rw [List.filter_filter]
    refine List.filter_congr fun e _ => ?_
    by_cases he : e.slot = i
    · rw [he, h, beq_self_eq_true]
      rfl
    · rw [beq_false_of_ne he, Bool.false_and]
  have hperm := handTargets_entries_perm s round hands place k i
  rw [hkept, h, Option.bind_none, Option.toList_none, ite_self, List.append_nil] at hperm
  exact hperm

theorem handTargets_entries_of_some {i : SlotIdx} {u : Nat} (h : hands i = some u) (k : ZoneIdx) :
    (((handTargets round hands place s).motion.queues.get k).filter fun e => e.slot == i) =
      if k = zoneAt s i then (entryFor s round (place i) i u).toList else [] := by
  have hgone : ((s.motion.queues.get k).filter fun e => (hands e.slot).isNone).filter (fun e => e.slot == i) = [] := by
    rw [List.filter_filter, List.filter_eq_nil_iff]
    intro e _ he
    obtain ⟨hslot, hnone⟩ := Bool.and_eq_true_iff.1 he
    rw [beq_iff_eq.1 hslot, h] at hnone
    cases hnone
  have hperm := handTargets_entries_perm s round hands place k i
  rw [hgone, h, Option.bind_some, List.nil_append] at hperm
  split at hperm
  next hk =>
    rw [if_pos hk]
    cases hentry : entryFor s round (place i) i u with
    | none =>
      rw [hentry] at hperm
      exact List.perm_nil.1 hperm
    | some e =>
      rw [hentry] at hperm
      exact List.perm_singleton.1 hperm
  next hk =>
    rw [if_neg hk]
    exact List.perm_nil.1 hperm

end Hands

/-! ## The entry that a target makes -/

section Entry

variable {s : State} {round place : Nat} {i : SlotIdx} {u : Nat}

theorem entryFor_of_lower (h : u < (valveOf s i).commanded) :
    entryFor s round place i u = some { slot := i, kind := .closing, position := u } :=
  if_pos h

theorem entryFor_of_higher (h : (valveOf s i).commanded < u) :
    entryFor s round place i u =
      some
        { slot := i, kind := .opening round place,
          position := min u ((valveOf s i).commanded + (zoneRecordAt s i).ramp) } :=
  (if_neg (Nat.not_lt.2 (Nat.le_of_lt h))).trans (if_pos h)

theorem entryFor_of_equal (h : u = (valveOf s i).commanded) : entryFor s round place i u = none := by
  simp only [entryFor, h, lt_irrefl, if_false]

end Entry

/-- Settles O27: a slot's valve and entries by what is handed to it, and the queue order. -/
theorem handedTargets : Obligations.HandedTargets := by
  refine fun s round hands place => ⟨fun i => ⟨fun h => ?unhanded, fun u h => ?handed⟩, fun k => ?order, rfl⟩
  case unhanded =>
    refine ⟨?_, handTargets_entries_of_none s round hands place h⟩
    rw [valveOf_handTargets, h]
    rfl
  case handed =>
    have hentries := handTargets_entries_of_some s round hands place h
    refine ⟨?_, fun hlow k => ?_, fun hhigh k => ?_, fun hequal k => ?_⟩
    · rw [valveOf_handTargets, h]
      rfl
    · refine (hentries k).trans ?_
      rw [entryFor_of_lower hlow]
      rfl
    · refine (hentries k).trans ?_
      rw [entryFor_of_higher hhigh]
      rfl
    · refine (hentries k).trans ?_
      rw [entryFor_of_equal hequal]
      exact ite_self _
  case order =>
    rw [handTargets_queues_get]
    exact sortQueue_pairwise _

end Sys2Proof.Machine
end

section
/-! PROOFS. The standings of a round: when a slot stands FIXED, CLOSED with its reason, or RANKED (section 3.5). -/

namespace Sys2Proof.Machine

/-! ## The conditions of R58 and R59 -/

section Conditions

variable (s : State) (i : SlotIdx)

theorem inManual_iff : inManual s i = true ↔ ∃ setpoint, (s.plan.roster.get i).mode = .manual setpoint := by
  rw [inManual]
  cases (s.plan.roster.get i).mode <;> simp [Mode.isManual]

theorem closedByLock_iff :
    closedByLock s i = true ↔
      (s.gas.slotLocks.get i = true ∨ s.gas.zoneLocks.get (zoneAt s i) = true) ∧
        ¬((∃ setpoint, (s.plan.roster.get i).mode = .manual setpoint) ∧ s.gas.keyActive = true) := by
  rw [closedByLock, Bool.and_eq_true, locked_iff, ← inManual_iff, Bool.not_eq_true', ← Bool.not_eq_true, Bool.and_eq_true]

theorem inTestClosing_iff :
    (inTestSet s i && testClosing s) = true ↔
      (∃ t ∈ s.proc.testSet, t.slot = i) ∧ (s.proc.state = .settling ∨ s.proc.state = .measuring) := by
  rw [Bool.and_eq_true, inTestSet_iff, testClosing_iff, List.mem_map]

/-- A slot's record with the times of its c, o and q. -/
def ReadAt (c o q : Nat) : Prop :=
  ∃ rec, s.scanner.records.get i = some rec ∧ rec.methane.map (·.time) = some c ∧
    rec.oxygen.map (·.time) = some o ∧ rec.flow.map (·.time) = some q

theorem readAt_iff (c o q : Nat) :
    ReadAt s i c o q ↔
      (readingOf s (·.methane) i).map (·.time) = some c ∧ (readingOf s (·.oxygen) i).map (·.time) = some o ∧
        (readingOf s (·.flow) i).map (·.time) = some q := by
  simp only [ReadAt, readingOf]
  cases s.scanner.records.get i <;> simp

theorem hasReadings_iff_readAt : hasReadings s i = true ↔ ∃ c o q, ReadAt s i c o q := by
  simp only [hasReadings_iff, readAt_iff, Option.map_eq_some_iff]
  constructor
  · rintro ⟨c, o, q, hc, ho, hq⟩
    exact ⟨c.time, o.time, q.time, ⟨c, hc, rfl⟩, ⟨o, ho, rfl⟩, ⟨q, hq, rfl⟩⟩
  · rintro ⟨_, _, _, ⟨c, hc, -⟩, ⟨o, ho, -⟩, ⟨q, hq, -⟩⟩
    exact ⟨c, o, q, hc, ho, hq⟩

theorem oldestReading_iff (t : Nat) :
    oldestReading s i = some t ↔ ∃ c o q, ReadAt s i c o q ∧ t = min c (min o q) := by
  simp only [readAt_iff, oldestReading]
  constructor
  · intro h
    split at h
    next c o q hc ho hq =>
      rw [hc, ho, hq]
      exact ⟨c.time, o.time, q.time, ⟨rfl, rfl, rfl⟩, (Option.some.inj h).symm⟩
    · cases h
  · rintro ⟨_, _, _, ⟨hc, ho, hq⟩, rfl⟩
    obtain ⟨c, hc', rfl⟩ := Option.map_eq_some_iff.1 hc
    obtain ⟨o, ho', rfl⟩ := Option.map_eq_some_iff.1 ho
    obtain ⟨q, hq', rfl⟩ := Option.map_eq_some_iff.1 hq
    rw [hc', ho', hq']

/-- R59: an age equal to the limit is not stale. -/
theorem isStale_iff :
    isStale s i = true ↔
      ∃ c o q, ReadAt s i c o q ∧
        min c (min o q) + ((s.plan.active.entries.get i).staleOverride).getD s.plan.active.staleLimit < s.elapsed := by
  have hlimit : (s.plan.active.entries.get i).staleOverride.getD s.plan.active.staleLimit = s.plan.active.staleLimitOf i := rfl
  simp only [isStale, Option.any_eq_true, oldestReading_iff, decide_eq_true_eq, hlimit]
  constructor
  · rintro ⟨_, ⟨c, o, q, hread, rfl⟩, hold⟩
    exact ⟨c, o, q, hread, by omega⟩
  · rintro ⟨c, o, q, hread, hold⟩
    exact ⟨_, ⟨c, o, q, hread, rfl⟩, by omega⟩

end Conditions

/-! ## The reason of a CLOSED slot (R15, R58) -/

section Reasons

variable {s : State} {i : SlotIdx}

theorem closedReason_of_retiring (h : lifecycleOf s i = .retiring) : closedReason s i = some .retiring := by
  simp only [closedReason, h, beq_self_eq_true, if_true]

theorem listedReason_of_locked (hlife : lifecycleOf s i ≠ .retiring) (h : closedByLock s i = true) :
    listedReason s i = some .locked := by
  simp only [listedReason, beq_iff_eq, hlife, if_false, h, if_true]

theorem listedReason_of_tripped (hlife : lifecycleOf s i ≠ .retiring) (h : closedByLock s i = false)
    (htrip : tripped s i = true) : listedReason s i = some .tripped := by
  simp only [listedReason, beq_iff_eq, hlife, if_false, h, Bool.false_eq_true, htrip, if_true]

/-- The reason of a slot that is neither RETIRING, nor locked, nor tripped. -/
theorem closedReason_of_open (hlife : lifecycleOf s i ≠ .retiring) (h : closedByLock s i = false)
    (htrip : tripped s i = false) :
    closedReason s i =
      if (inTestSet s i && testClosing s) = true then some .inTest
      else if hasReadings s i = true then (if isStale s i = true then some .stale else none)
      else some .noReading := by
  rw [closedReason_of_free s i h htrip]
  simp only [listedReason, beq_iff_eq, hlife, if_false, h, htrip, Bool.false_eq_true]
  split
  · rfl
  · cases hasReadings s i <;> rfl

/-- A locked slot without readings is NOREADING or LOCKED (log entry 29). -/
theorem closedReason_of_locked_new (hlife : lifecycleOf s i ≠ .retiring) (h : closedByLock s i = true) :
    closedReason s i = some .noReading ∨ closedReason s i = some .locked := by
  rcases closedReason_cases s i with hlisted | ⟨hnew, -⟩
  · exact .inr (hlisted.trans (listedReason_of_locked hlife h))
  · exact .inl hnew

theorem closedReason_of_tripped_new (hlife : lifecycleOf s i ≠ .retiring) (h : closedByLock s i = false)
    (htrip : tripped s i = true) : closedReason s i = some .noReading ∨ closedReason s i = some .tripped := by
  rcases closedReason_cases s i with hlisted | ⟨hnew, -⟩
  · exact .inr (hlisted.trans (listedReason_of_tripped hlife h htrip))
  · exact .inl hnew

end Reasons

/-! ## Standings (R56) -/

section Standings

variable {s : State} {i : SlotIdx}

theorem standing_of_retired (h : lifecycleOf s i = .retired) : standing s i = some .absent := by
  rw [standing, h]

theorem standing_of_closed {r : ClosedReason} (hservice : inService s i = true) (h : standsFixed s i = false)
    (hr : closedReason s i = some r) : standing s i = some (.closed r) := by
  rw [inService] at hservice
  rw [standing]
  cases hlife : lifecycleOf s i with
  | active | retiring => simp [h, hr]
  | vacant | retired => rw [hlife] at hservice; cases hservice

theorem standing_of_ranked (hservice : inService s i = true) (h : standsFixed s i = false)
    (hr : closedReason s i = none) : standing s i = some .ranked := by
  rw [inService] at hservice
  rw [standing]
  cases hlife : lifecycleOf s i with
  | active | retiring => simp [h, hr]
  | vacant | retired => rw [hlife] at hservice; cases hservice

theorem standing_eq_none_iff : standing s i = none ↔ lifecycleOf s i = .vacant := by
  refine ⟨fun h => ?_, fun h => by rw [standing, h]⟩
  by_contra hlife
  cases hservice : inService s i with
  | false =>
    have hretired : lifecycleOf s i = .retired := by
      rw [inService] at hservice
      cases hl : lifecycleOf s i with
      | retired => rfl
      | vacant => exact absurd hl hlife
      | active | retiring => rw [hl] at hservice; cases hservice
    rw [standing_of_retired hretired] at h
    cases h
  | true =>
    cases hfixed : standsFixed s i with
    | true =>
      rw [standing_of_fixed hservice hfixed] at h
      cases h
    | false =>
      cases hr : closedReason s i with
      | none =>
        rw [standing_of_ranked hservice hfixed hr] at h
        cases h
      | some r =>
        rw [standing_of_closed hservice hfixed hr] at h
        cases h

end Standings

end Sys2Proof.Machine
end

section
/-! PROOFS. The record of a round: each slot's entry from the pass that made it, and the standings, grants,
targets and sums of sections 3.5 to 3.7. -/

namespace Sys2Proof.Machine

/-! ## The two passes, turn by turn -/

/-- Pass A grants to each slot of the order once, in the order. -/
theorem passA_cands (order : List Candidate) (place remaining : Nat) :
    (passA order place remaining).map (·.cand) = order := by
  induction order generalizing place remaining with
  | nil => rfl
  | cons a rest ih => rw [passA, List.map_cons, ih]

/-- R63: a slot's place counts the slots before it, and its grant is the lesser of its desired yield and what
their grants left. -/
theorem passA_turn {order : List Candidate} {place remaining : Nat} {before after : List Granted} {g : Granted}
    (h : passA order place remaining = before ++ g :: after) :
    g.place = place + before.length ∧
      g.grant = min g.cand.desiredYield (remaining - (before.map (·.grant)).sum) := by
  induction before generalizing order place remaining with
  | nil =>
    cases order with
    | nil => cases h
    | cons a rest =>
      obtain ⟨rfl, -⟩ := List.cons.inj h
      exact ⟨rfl, rfl⟩
  | cons b before ih =>
    cases order with
    | nil => cases h
    | cons a rest =>
      obtain ⟨rfl, hrest⟩ := List.cons.inj h
      obtain ⟨hplace, hgrant⟩ := ih hrest
      rw [hplace, hgrant, List.length_cons, List.map_cons, List.sum_cons, Nat.sub_sub]
      exact ⟨by omega, rfl⟩

/-- The sums with a slot's allotted flow added. -/
def addAllotted (t : Sums) (a : Allotted) : Sums := t.add a.flow a.granted.cand.c a.granted.cand.o

section PassB

variable {floor ceiling : Nat}

/-- Pass B gives each granted slot one turn, in the order given. -/
theorem passB_granted (gs : List Granted) (t : Sums) : (passB floor ceiling gs t).1.map (·.granted) = gs := by
  induction gs generalizing t with
  | nil => rfl
  | cons g gs ih => rw [passB_cons, List.map_cons, ih]; rfl

/-- R62: the sums after pass B are those of all it allotted. -/
theorem passB_sums (gs : List Granted) (t : Sums) :
    (passB floor ceiling gs t).2 = (passB floor ceiling gs t).1.foldl addAllotted t := by
  induction gs generalizing t with
  | nil => rfl
  | cons g gs ih => rw [passB_cons, List.foldl_cons, ih]; rfl

/-- R64: a slot's turn is taken at the sums of the slots before it. -/
theorem passB_turn {gs : List Granted} {t : Sums} {before after : List Allotted} {a : Allotted}
    (h : (passB floor ceiling gs t).1 = before ++ a :: after) :
    a = allot floor ceiling (before.foldl addAllotted t) a.granted := by
  induction before generalizing gs t with
  | nil =>
    cases gs with
    | nil => cases h
    | cons g gs =>
      obtain ⟨rfl, -⟩ := List.cons.inj h
      rfl
  | cons b before ih =>
    cases gs with
    | nil => cases h
    | cons g gs =>
      obtain ⟨rfl, hrest⟩ := List.cons.inj h
      exact ih hrest

end PassB

/-! ## The capacity order and pass B's order -/

section Orders

theorem richerFirst_iff (a b : Candidate) : richerFirst a b = true ↔ b.c < a.c ∨ (a.c = b.c ∧ a.slot ≤ b.slot) := by
  simp [richerFirst]

theorem capacityFirst_iff (a b : Candidate) :
    capacityFirst a b = true ↔ b.priority < a.priority ∨ (a.priority = b.priority ∧ richerFirst a b = true) := by
  simp [capacityFirst]

theorem richerFirst_total (a b : Candidate) : richerFirst a b = true ∨ richerFirst b a = true := by
  simp only [richerFirst_iff, Fin.le_def]
  omega

theorem richerFirst_trans {a b c : Candidate} (hab : richerFirst a b = true) (hbc : richerFirst b c = true) :
    richerFirst a c = true := by
  simp only [richerFirst_iff, Fin.le_def] at *
  omega

theorem capacityFirst_total (a b : Candidate) : capacityFirst a b = true ∨ capacityFirst b a = true := by
  have h := richerFirst_total a b
  simp only [capacityFirst_iff]
  rcases lt_trichotomy a.priority b.priority with hlt | heq | hgt
  · exact .inr (.inl hlt)
  · exact h.imp (fun hr => .inr ⟨heq, hr⟩) (fun hr => .inr ⟨heq.symm, hr⟩)
  · exact .inl (.inl hgt)

theorem capacityFirst_trans {a b c : Candidate} (hab : capacityFirst a b = true) (hbc : capacityFirst b c = true) :
    capacityFirst a c = true := by
  rw [capacityFirst_iff] at *
  rcases hab with hab | ⟨hab, rab⟩ <;> rcases hbc with hbc | ⟨hbc, rbc⟩
  · exact .inl (hbc.trans hab)
  · exact .inl (hbc ▸ hab)
  · exact .inl (hab ▸ hbc)
  · exact .inr ⟨hab.trans hbc, richerFirst_trans rab rbc⟩

variable (s : State)

theorem capacityOrder_pairwise : (capacityOrder s).Pairwise fun a b => capacityFirst a b = true := by
  have total : Std.Total fun a b : Candidate => capacityFirst a b = true := ⟨capacityFirst_total⟩
  have trans : IsTrans Candidate fun a b => capacityFirst a b = true := ⟨fun _ _ _ => capacityFirst_trans⟩
  exact List.pairwise_insertionSort _ _

/-- The grants in pass B's order (R64). -/
def richestGrants (s : State) : List Granted :=
  (grants s).insertionSort fun a b => richerFirst a.cand b.cand = true

theorem richestGrants_pairwise : (richestGrants s).Pairwise fun a b => richerFirst a.cand b.cand = true := by
  have total : Std.Total fun a b : Granted => richerFirst a.cand b.cand = true :=
    ⟨fun a b => richerFirst_total a.cand b.cand⟩
  have trans : IsTrans Granted fun a b => richerFirst a.cand b.cand = true := ⟨fun _ _ _ => richerFirst_trans⟩
  exact List.pairwise_insertionSort _ _

theorem capacityOrder_slots_perm :
    ((capacityOrder s).map (·.slot)).Perm (allSlots.filter fun i => standing s i == some .ranked) := by
  have hslots : (candidates s).map (·.slot) = allSlots.filter fun i => standing s i == some .ranked := by
    rw [candidates, List.map_map]
    exact List.map_id _
  exact hslots ▸ (List.perm_insertionSort _ (candidates s)).map (·.slot)

/-- The capacity order holds each RANKED slot. -/
theorem mem_order_iff (i : SlotIdx) : i ∈ (allocate s).order ↔ standing s i = some .ranked := by
  rw [allocate, (capacityOrder_slots_perm s).mem_iff, List.mem_filter, beq_iff_eq]
  exact ⟨fun h => h.2, fun h => ⟨mem_allSlots i, h⟩⟩

theorem order_nodup : (allocate s).order.Nodup :=
  (capacityOrder_slots_perm s).nodup_iff.2 ((List.nodup_finRange 60).filter _)

theorem grants_slots : (grants s).map (·.cand.slot) = (allocate s).order := by
  have hcands : (grants s).map (·.cand) = capacityOrder s := passA_cands _ _ _
  calc (grants s).map (·.cand.slot) = ((grants s).map (·.cand)).map (·.slot) := List.map_map.symm
    _ = (allocate s).order := by rw [hcands]; rfl

theorem richestGrants_slots_perm : ((richestGrants s).map (·.cand.slot)).Perm (allocate s).order :=
  grants_slots s ▸ (List.perm_insertionSort _ (grants s)).map _

theorem grant_cand {s : State} {g : Granted} (h : g ∈ grants s) : g.cand = candidate s g.cand.slot :=
  eq_candidate_of_mem_capacityOrder (mem_passA h).1

theorem allotments_granted : (allotments s).1.map (·.granted) = richestGrants s := passB_granted _ _

theorem allotments_slots : (allotments s).1.map (·.granted.cand.slot) = (richestGrants s).map (·.cand.slot) := by
  rw [← allotments_granted, List.map_map]
  rfl

theorem allotments_slots_nodup : ((allotments s).1.map (·.granted.cand.slot)).Nodup := by
  rw [allotments_slots, (richestGrants_slots_perm s).nodup_iff]
  exact order_nodup s

theorem exists_allotted {s : State} {g : Granted} (h : g ∈ grants s) : ∃ a ∈ (allotments s).1, a.granted = g := by
  have hrich : g ∈ (allotments s).1.map (·.granted) := by
    rw [allotments_granted]
    exact (List.mem_insertionSort _).2 h
  exact List.mem_map.1 hrich

end Orders

/-! ## The entries (R67) -/

/-- Of a list without repeated keys, the search for a member's key finds the member. -/
theorem find?_key_of_nodup {α : Type} (key : α → SlotIdx) {l : List α} (h : (l.map key).Nodup) {a : α} (ha : a ∈ l) :
    (l.find? fun b => key b == key a) = some a := by
  induction l with
  | nil => cases ha
  | cons b l ih =>
    obtain ⟨hnot, hnodup⟩ := List.nodup_cons.1 h
    rcases List.mem_cons.1 ha with rfl | hrest
    · exact List.find?_cons_of_pos (beq_self_eq_true _)
    · have hne : (key b == key a) = false :=
        beq_false_of_ne fun heq => hnot (heq ▸ List.mem_map_of_mem hrest)
      rw [List.find?_cons_of_neg (by simp [hne])]
      exact ih hnodup hrest

section Entries

variable {s : State}

/-- The entry that a RANKED slot has from its turns in the two passes. -/
def rankedEntry (a : Allotted) : AllocEntry :=
  { standing := .ranked, target := a.target, flow := a.flow, grant := some a.granted.grant,
    place := some a.granted.place }

theorem standing_of_allotted {a : Allotted} (ha : a ∈ (allotments s).1) :
    standing s a.granted.cand.slot = some .ranked := by
  have hslot : a.granted.cand.slot ∈ (richestGrants s).map (·.cand.slot) :=
    allotments_slots s ▸ List.mem_map_of_mem ha
  exact (mem_order_iff s _).1 ((richestGrants_slots_perm s).mem_iff.1 hslot)

theorem entry_of_allotted {a : Allotted} (ha : a ∈ (allotments s).1) :
    (allocate s).entries.get a.granted.cand.slot = some (rankedEntry a) := by
  have hfind := find?_key_of_nodup (·.granted.cand.slot) (allotments_slots_nodup s) ha
  simp only [allocate_entry, allocEntry, standing_of_allotted ha, hfind]
  rfl

variable {i : SlotIdx}

/-- A RANKED slot has its turn in pass B. -/
theorem exists_allotted_of_standing (h : standing s i = some .ranked) :
    ∃ a ∈ (allotments s).1, a.granted.cand.slot = i := by
  have hslot : i ∈ (grants s).map (·.cand.slot) := by
    rw [grants_slots]
    exact (mem_order_iff s i).2 h
  obtain ⟨g, hg, rfl⟩ := List.mem_map.1 hslot
  obtain ⟨a, ha, rfl⟩ := exists_allotted hg
  exact ⟨a, ha, rfl⟩

theorem entry_of_none (h : standing s i = none) : (allocate s).entries.get i = none := by
  rw [allocate_entry, allocEntry, h]

theorem entry_of_absent (h : standing s i = some .absent) :
    (allocate s).entries.get i = some { standing := .absent, target := 0, flow := 0, grant := none, place := none } := by
  rw [allocate_entry, allocEntry, h]

theorem entry_of_fixed (h : standing s i = some .fixed) :
    (allocate s).entries.get i =
      some { standing := .fixed, target := (valveOf s i).target, flow := fixedFlow s i, grant := none, place := none } := by
  rw [allocate_entry, allocEntry, h]

theorem entry_of_closed {r : ClosedReason} (h : standing s i = some (.closed r)) :
    (allocate s).entries.get i = some { standing := .closed r, target := 0, flow := 0, grant := none, place := none } := by
  rw [allocate_entry, allocEntry, h]

/-- The record holds each slot's standing. -/
theorem entry_standing (s : State) (i : SlotIdx) : ((allocate s).entries.get i).map (·.standing) = standing s i := by
  cases h : standing s i with
  | none => rw [entry_of_none h]; rfl
  | some x =>
    cases x with
    | absent => rw [entry_of_absent h]; rfl
    | fixed => rw [entry_of_fixed h]; rfl
    | closed r => rw [entry_of_closed h]; rfl
    | ranked =>
      obtain ⟨a, ha, rfl⟩ := exists_allotted_of_standing h
      rw [entry_of_allotted ha]
      rfl

theorem entry_eq_none_iff : (allocate s).entries.get i = none ↔ lifecycleOf s i = .vacant := by
  rw [← standing_eq_none_iff, ← entry_standing, Option.map_eq_none_iff]

end Entries

/-! ## What the record says of a slot -/

section Recorded

variable (s : State)

/-- A slot's grant in the round's record, 0 where it has none. -/
def recordedGrant (i : SlotIdx) : Nat := (((allocate s).entries.get i).bind (·.grant)).getD 0

/-- A slot's target in the round's record. -/
def recordedTarget (i : SlotIdx) : Nat := (((allocate s).entries.get i).map (·.target)).getD 0

/-- A slot's predicted flow in the round's record. -/
def recordedFlow (i : SlotIdx) : Nat := (((allocate s).entries.get i).map (·.flow)).getD 0

/-- The running sums with a slot's recorded flow added, at its c and o. -/
def addRecorded (t : Sums) (i : SlotIdx) : Sums :=
  t.add (recordedFlow s i) (readingOr s (·.methane) 0 i) (readingOr s (·.oxygen) 0 i)

/-- R57: the running sums with a FIXED slot's recorded flow added, no good o counting as 210. -/
def addFixed (t : Sums) (i : SlotIdx) : Sums :=
  t.add (recordedFlow s i) (readingOr s (·.methane) 0 i) (readingOr s (·.oxygen) 210 i)

/-- The sums of the slots that the record holds FIXED. -/
theorem recorded_fixedSums :
    (allSlots.filter fun i => ((allocate s).entries.get i).map (·.standing) == some .fixed).foldl (addFixed s)
      { f := 0, m := 0, x := 0 } = fixedSums s := by
  simp only [entry_standing]
  refine List.foldl_ext _ _ _ fun t i hi => ?_
  have hflow : recordedFlow s i = fixedFlow s i := by
    rw [recordedFlow, entry_of_fixed (beq_iff_eq.1 (List.mem_filter.1 hi).2)]
    rfl
  rw [addFixed, hflow]

variable {s}

section Allotted

variable {a : Allotted} (ha : a ∈ (allotments s).1)

include ha

theorem recordedGrant_of_allotted : recordedGrant s a.granted.cand.slot = a.granted.grant := by
  rw [recordedGrant, entry_of_allotted ha]; rfl

theorem recordedTarget_of_allotted : recordedTarget s a.granted.cand.slot = a.target := by
  rw [recordedTarget, entry_of_allotted ha]; rfl

theorem recordedFlow_of_allotted : recordedFlow s a.granted.cand.slot = a.flow := by
  rw [recordedFlow, entry_of_allotted ha]; rfl

theorem cand_of_allotted : a.granted.cand = candidate s a.granted.cand.slot := by
  obtain ⟨g, -, hcand, t, rfl⟩ := mem_allotments ha
  exact hcand

theorem addRecorded_of_allotted (t : Sums) : addRecorded s t a.granted.cand.slot = addAllotted t a := by
  rw [addRecorded, recordedFlow_of_allotted ha, addAllotted, cand_of_allotted ha]
  rfl

end Allotted

/-- The sums of slots that pass B gave a turn are those of its turns. -/
theorem foldl_addRecorded {l : List Allotted} (h : ∀ a ∈ l, a ∈ (allotments s).1) (t : Sums) :
    (l.map (·.granted.cand.slot)).foldl (addRecorded s) t = l.foldl addAllotted t := by
  rw [List.foldl_map]
  exact List.foldl_ext _ _ _ fun t a ha => addRecorded_of_allotted (h a ha) t

end Recorded

end Sys2Proof.Machine
end

section
/-! PROOFS. The statement of sections 3.5 to 3.7 on what a computed round records. -/

namespace Sys2Proof.Machine

/-! ## The allowances of R64 written out -/

theorem boundBy_methaneAllowance (floor c : Nat) (t : Sums) (y : Nat) :
    boundBy (methaneAllowance floor c t) y =
      if floor ≤ c then y
      else if floor * t.f ≤ t.m then min y ((t.m - floor * t.f) / (floor - c))
      else 0 := by
  rw [methaneAllowance]
  split
  · rfl
  · split
    · rfl
    · exact Nat.min_zero y

theorem boundBy_oxygenAllowance (ceiling o : Nat) (t : Sums) (y : Nat) :
    boundBy (oxygenAllowance ceiling o t) y =
      if o ≤ ceiling then y
      else if t.x ≤ ceiling * t.f then min y ((ceiling * t.f - t.x) / (o - ceiling))
      else 0 := by
  rw [oxygenAllowance]
  split
  · rfl
  · split
    · rfl
    · exact Nat.min_zero y

/-! ## The orders of the RANKED slots -/

section Orders

variable (s : State)

/-- Pass B's order of two slots: c, higher first, then slot number. -/
def Richer (i j : SlotIdx) : Prop :=
  readingOr s (·.methane) 0 j < readingOr s (·.methane) 0 i ∨
    (readingOr s (·.methane) 0 i = readingOr s (·.methane) 0 j ∧ i ≤ j)

/-- The capacity order of two slots: priority class, higher first, then as pass B. -/
def CapacityFirst (i j : SlotIdx) : Prop :=
  (s.plan.active.entries.get j).priority < (s.plan.active.entries.get i).priority ∨
    ((s.plan.active.entries.get i).priority = (s.plan.active.entries.get j).priority ∧ Richer s i j)

variable {s}

theorem richer_of_richerFirst {a b : Candidate} (ha : a = candidate s a.slot) (hb : b = candidate s b.slot)
    (h : richerFirst a b = true) : Richer s a.slot b.slot := by
  rw [richerFirst_iff, ha, hb] at h
  exact h

theorem order_pairwise (s : State) : (allocate s).order.Pairwise (CapacityFirst s) := by
  refine List.pairwise_map.2 (List.Pairwise.imp_of_mem ?_ (capacityOrder_pairwise s))
  intro a b ha hb h
  have hcandA := eq_candidate_of_mem_capacityOrder ha
  have hcandB := eq_candidate_of_mem_capacityOrder hb
  refine ((capacityFirst_iff a b).1 h).imp (fun hlt => ?_) fun ⟨heq, hrich⟩ =>
    ⟨?_, richer_of_richerFirst hcandA hcandB hrich⟩
  · rw [hcandA, hcandB] at hlt
    exact hlt
  · rw [hcandA, hcandB] at heq
    exact heq

/-- The RANKED slots in pass B's order. -/
def richestSlots (s : State) : List SlotIdx := (richestGrants s).map (·.cand.slot)

theorem richestSlots_pairwise (s : State) : (richestSlots s).Pairwise (Richer s) := by
  refine List.pairwise_map.2 (List.Pairwise.imp_of_mem ?_ (richestGrants_pairwise s))
  intro a b ha hb h
  exact richer_of_richerFirst (grant_cand ((List.mem_insertionSort _).1 ha))
    (grant_cand ((List.mem_insertionSort _).1 hb)) h

end Orders

/-! ## A slot's turn in each pass, as the record shows it -/

section Turns

variable {s : State} {before after : List SlotIdx} {i : SlotIdx}

/-- R61, R63: a slot's entry holds its place in the capacity order, and the lesser of its desired yield and what
the slots before it left. -/
theorem entry_of_order (h : (allocate s).order = before ++ i :: after) :
    ∃ e, (allocate s).entries.get i = some e ∧ e.standing = .ranked ∧ e.place = some (before.length + 1) ∧
      e.grant =
        some (min (yieldOf s i * desiredOpening s i / 100)
          (s.rounds.capacity - (fixedSums s).f - (before.map (recordedGrant s)).sum)) := by
  rw [← grants_slots] at h
  obtain ⟨pre, rest, hsplit, rfl, hrest⟩ := List.map_eq_append_iff.1 h
  obtain ⟨g, post, rfl, rfl, -⟩ := List.map_eq_cons_iff.1 hrest
  have hmem : ∀ g' ∈ pre ++ g :: post, g' ∈ grants s := fun g' hg => hsplit ▸ hg
  have hg : g ∈ grants s := hmem g (List.mem_append_right pre List.mem_cons_self)
  obtain ⟨a, ha, rfl⟩ := exists_allotted hg
  obtain ⟨hplace, hgrant⟩ := passA_turn hsplit
  have hbefore : (pre.map (·.cand.slot)).map (recordedGrant s) = pre.map (·.grant) := by
    rw [List.map_map]
    refine List.map_congr_left fun g' hg' => ?_
    obtain ⟨a', ha', rfl⟩ := exists_allotted (hmem g' (List.mem_append_left _ hg'))
    exact recordedGrant_of_allotted ha'
  have hdesired : a.granted.cand.desiredYield =
      yieldOf s a.granted.cand.slot * desiredOpening s a.granted.cand.slot / 100 := by
    rw [cand_of_allotted ha]
    rfl
  refine ⟨rankedEntry a, entry_of_allotted ha, rfl, ?_, ?_⟩
  · rw [rankedEntry, hplace, List.length_map, Nat.add_comm]
  · rw [rankedEntry, hgrant, hbefore, hdesired]

/-- The record's sums are those of the slots in pass B's order, on top of the FIXED slots'. -/
theorem recorded_sums (s : State) :
    (allotments s).2 = (richestSlots s).foldl (addRecorded s) (fixedSums s) := by
  rw [richestSlots, ← allotments_slots, foldl_addRecorded fun _ ha => ha]
  exact passB_sums _ _

/-- R64: the flow permitted to a slot, from its recorded grant and the sums at its turn. -/
def recordedPermitted (s : State) (t : Sums) (i : SlotIdx) : Nat :=
  boundBy (oxygenAllowance s.gas.limits.oCeil (readingOr s (·.oxygen) 0 i) t)
    (boundBy (methaneAllowance s.gas.effectiveFloor (readingOr s (·.methane) 0 i) t) (recordedGrant s i))

/-- R64, R65: a slot's recorded target and flow are those of its turn, at the sums of the slots before it. -/
theorem recorded_of_richest (h : richestSlots s = before ++ i :: after) :
    recordedTarget s i =
        targetFor (candidate s i) (recordedPermitted s (before.foldl (addRecorded s) (fixedSums s)) i) ∧
      recordedFlow s i = yieldOf s i * recordedTarget s i / 100 := by
  rw [richestSlots, ← allotments_slots] at h
  obtain ⟨pre, rest, hsplit, rfl, hrest⟩ := List.map_eq_append_iff.1 h
  obtain ⟨a, post, rfl, rfl, -⟩ := List.map_eq_cons_iff.1 hrest
  have hmem : ∀ a' ∈ pre ++ a :: post, a' ∈ (allotments s).1 := fun a' ha => hsplit ▸ ha
  have ha : a ∈ (allotments s).1 := hmem a (List.mem_append_right pre List.mem_cons_self)
  have hturn := passB_turn hsplit
  have hpermitted :
      permittedFlow s.gas.effectiveFloor s.gas.limits.oCeil (pre.foldl addAllotted (fixedSums s)) a.granted =
      recordedPermitted s (pre.foldl addAllotted (fixedSums s)) a.granted.cand.slot := by
    rw [permittedFlow, recordedPermitted, recordedGrant_of_allotted ha, cand_of_allotted ha]
    rfl
  have htarget : a.target =
      targetFor a.granted.cand
        (permittedFlow s.gas.effectiveFloor s.gas.limits.oCeil (pre.foldl addAllotted (fixedSums s)) a.granted) :=
    congrArg Allotted.target hturn
  have hflow : a.flow = a.granted.cand.estimate * a.target / 100 := by
    rw [htarget]
    exact congrArg Allotted.flow hturn
  have hestimate : a.granted.cand.estimate = yieldOf s a.granted.cand.slot := by
    rw [cand_of_allotted ha]
    rfl
  rw [recordedTarget_of_allotted ha, recordedFlow_of_allotted ha,
    foldl_addRecorded fun a' ha' => hmem a' (List.mem_append_left _ ha')]
  refine ⟨?_, hflow.trans (by rw [hestimate])⟩
  rw [htarget, hpermitted, ← cand_of_allotted ha]

end Turns

/-! ## The statement -/

/-- R56 to R58, R65, R67: the entry of each slot that is not RANKED, and the place of each that is. -/
theorem recorded_entries (s : State) (i : SlotIdx) :
    (lifecycleOf s i = .vacant ↔ (allocate s).entries.get i = none) ∧
      (lifecycleOf s i = .retired →
        (allocate s).entries.get i =
          some { standing := .absent, target := 0, flow := 0, grant := none, place := none }) ∧
      (inService s i = true → standsFixed s i = true →
        (allocate s).entries.get i =
          some
            { standing := .fixed, target := (valveOf s i).target, flow := fixedFlow s i, grant := none,
              place := none }) ∧
      (∀ r : ClosedReason, inService s i = true → standsFixed s i = false → closedReason s i = some r →
        (allocate s).entries.get i =
          some { standing := .closed r, target := 0, flow := 0, grant := none, place := none }) ∧
      (inService s i = true → standsFixed s i = false → closedReason s i = none → i ∈ (allocate s).order) :=
  ⟨entry_eq_none_iff.symm, fun h => entry_of_absent (standing_of_retired h),
    fun hservice hfixed => entry_of_fixed (standing_of_fixed hservice hfixed),
    fun _ hservice hfixed hr => entry_of_closed (standing_of_closed hservice hfixed hr),
    fun hservice hfixed hr => (mem_order_iff s i).2 (standing_of_ranked hservice hfixed hr)⟩

/-- R15, R58, R59: the reason of a CLOSED slot, by the tests of the model. -/
theorem closedReason_decided (s : State) (i : SlotIdx) (hlife : lifecycleOf s i ≠ .retiring) :
    (closedByLock s i = true → hasReadings s i = true → closedReason s i = some .locked) ∧
      (closedByLock s i = false → tripped s i = true → hasReadings s i = true → closedReason s i = some .tripped) ∧
      (closedByLock s i = true → closedReason s i = some .noReading ∨ closedReason s i = some .locked) ∧
      (closedByLock s i = false → tripped s i = true →
        closedReason s i = some .noReading ∨ closedReason s i = some .tripped) :=
  ⟨fun hlock hread => (closedReason_of_readings s i hread).trans (listedReason_of_locked hlife hlock),
    fun hlock htrip hread => (closedReason_of_readings s i hread).trans (listedReason_of_tripped hlife hlock htrip),
    fun hlock => closedReason_of_locked_new hlife hlock,
    fun hlock htrip => closedReason_of_tripped_new hlife hlock htrip⟩

/-- Settles O24: each slot's entry from its standing, the reasons by the tests of R58, and each RANKED slot's
grant and target from its turn in the passes. -/
theorem recordedStandings : Obligations.RecordedStandings := by
  refine ⟨recorded_entries, ?reasons, ?passes⟩
  case reasons =>
    intro s i zone manual lockedNow trippedNow testing read limit stale reason
    have hlock : closedByLock s i = true ↔ lockedNow := closedByLock_iff s i
    have htrip : tripped s i = true ↔ trippedNow := tripped_iff s i
    have htest : (inTestSet s i && testClosing s) = true ↔ testing := inTestClosing_iff s i
    have hread : hasReadings s i = true ↔ ∃ c o q, read c o q := hasReadings_iff_readAt s i
    have hstale : isStale s i = true ↔ stale := isStale_iff s i
    refine ⟨closedReason_of_retiring, fun hlife => ?_⟩
    obtain ⟨hlocked, htripped, hlockedNew, htrippedNew⟩ := closedReason_decided s i hlife
    have unlocked (h : ¬lockedNow) : closedByLock s i = false := Bool.eq_false_iff.2 (mt hlock.1 h)
    have untripped (h : ¬trippedNow) : tripped s i = false := Bool.eq_false_iff.2 (mt htrip.1 h)
    have hopen (hl : ¬lockedNow) (ht : ¬trippedNow) : reason = _ :=
      closedReason_of_open hlife (unlocked hl) (untripped ht)
    refine ⟨fun hl hr => hlocked (hlock.2 hl) (hread.2 hr),
      fun hl ht hr => htripped (unlocked hl) (htrip.2 ht) (hread.2 hr),
      fun hl _ => hlockedNew (hlock.2 hl), fun hl ht _ => htrippedNew (unlocked hl) (htrip.2 ht), ?_, ?_, ?_, ?_⟩
    · intro hl ht htesting
      exact (hopen hl ht).trans (if_pos (htest.2 htesting))
    · intro hl ht htesting hnone
      rw [hopen hl ht, if_neg (mt htest.1 htesting), if_neg (mt hread.1 hnone)]
    · intro hl ht htesting hold
      have hsome : ∃ c o q, read c o q := hold.imp fun c h => h.imp fun o h => h.imp fun q h => h.1
      rw [hopen hl ht, if_neg (mt htest.1 htesting), if_pos (hread.2 hsome), if_pos (hstale.2 hold)]
    · intro hl ht htesting hsome hfresh
      rw [hopen hl ht, if_neg (mt htest.1 htesting), if_pos (hread.2 hsome), if_neg (mt hstale.1 hfresh)]
  case passes =>
    intro s r c o grant target flow stands richer priority desired fixed
    have hfixed : fixed = fixedSums s := recorded_fixedSums s
    have hdesired : ∀ i, desired i = desiredOpening s i := fun _ => rfl
    have hstands : ∀ i st, stands i st = true ↔ standing s i = some st := fun i st => by
      simp only [stands, r, entry_standing, beq_iff_eq]
    refine ⟨⟨order_nodup s, fun i => (mem_order_iff s i).trans (hstands i .ranked).symm, order_pairwise s⟩,
      fun before i after h => ?_, richestSlots s, richestGrants_slots_perm s,
      richestSlots_pairwise s, ?_, fun before i after h => ?_⟩
    · rw [hfixed, hdesired]
      exact entry_of_order h
    · rw [hfixed]
      exact recorded_sums s
    · obtain ⟨htarget, hflow⟩ := recorded_of_richest h
      rw [recordedPermitted, boundBy_oxygenAllowance, boundBy_methaneAllowance] at htarget
      rw [hfixed]
      exact ⟨htarget, hflow⟩

end Sys2Proof.Machine
end
